-- ==== Sys2Proof/Word.lean ====
section
/-! DEFINITION. The bit-vector types of TTC-CORE (00_scope.md R8: every value is an unsigned
integer, bit 0 is the least significant) and their plainest arithmetic. -/

namespace Sys2Proof

/-- One byte: a command byte, a link byte, a CRC-8 value, a character of the telemetry frame. -/
abbrev Byte := BitVec 8

/-- `W_RES` = 16 bits (R6, R22): raw results, filter slots, smoothed results, rail, coefficient,
angle. -/
abbrev Word := BitVec 16

/-- `trunc_16` of a natural number (R8). -/
def Word.ofNat (n : Nat) : Word := BitVec.ofNat 16 n

end Sys2Proof
end

