-- ==== Sys2Proof/Config.lean ====
section
/-! DEFINITION. The implementation parameters of 00_scope.md R6 and the free values of the model.
A `Config` is plain data; it stands in `State` because the step takes no other argument, and no
step changes it (log entry 1).  `Config.machine` is the configuration of the machine at reset: the
spec's value where R6 gives a default, an opaque constant where R6 says `OPEN` (log entry 2). -/

namespace Sys2Proof

/-- `HEX_CASE` (R6, R83). -/
inductive HexCase where
  | lower
  | upper
deriving DecidableEq, Repr, Inhabited

/-- The answer of the sensor-link transport to one `LinkRead()`: the byte and whether the bounded
timeout expired (R9, R115).  On a timeout the byte is any value. -/
structure LinkAnswer where
  value    : Byte
  timedOut : Bool
deriving DecidableEq, Repr, Inhabited

/-- The answer of the converter to one `AdcConvert()`: a sample, or never (R143, R144). -/
inductive ConvAnswer where
  | sample (code : Word)
  | never
deriving DecidableEq, Repr, Inhabited

/-- The constants of the default linear forms (R6, R140). -/
structure LinearScaling where
  voltNum : Nat
  voltDen : Nat
  railNum : Nat
  railDen : Nat
  coefNum : Nat
  coefDen : Nat
  curDen  : Nat
deriving DecidableEq, Repr, Inhabited

/-- How the four scaling functions are given: by the default linear forms, or not at all, in which
case they are the opaque total functions below (R140: a model assumes of them only R141). -/
inductive Scaling where
  | linear (k : LinearScaling)
  | unspecified
deriving DecidableEq, Repr, Inhabited

/-- The parameters of R6.  `W_RES` is fixed at 16 and is the type `Word`. -/
structure Config where
  crc6Init    : BitVec 6   -- `CRC6_INIT`
  dummyByte   : Byte       -- `DUMMY_BYTE`
  adcBits     : Nat        -- `ADC_BITS`
  scaling     : Scaling    -- `ScaleV`, `RailEst`, `Coeff`, `ScaleI`
  iOffset     : Word       -- `I_OFFSET`
  filterN     : Nat        -- `FILTER_N`
  hexCase     : HexCase    -- `HEX_CASE`
  errcntBits  : Nat        -- `ERRCNT_BITS`
  linkTimeout : Nat        -- `LINK_TIMEOUT`, read by no rule
deriving DecidableEq, Repr, Inhabited

/-- `ScaleV` where the configuration does not give its form (R7, R141). -/
opaque Config.freeScaleV : Word → Word
/-- `RailEst` where the configuration does not give its form. -/
opaque Config.freeRailEst : Word → Word
/-- `Coeff` where the configuration does not give its form. -/
opaque Config.freeCoeff : Word → Word
/-- `ScaleI` where the configuration does not give its form: the code, then the coefficient. -/
opaque Config.freeScaleI : Word → Word → Word

/-- `I_OFFSET` of the machine at reset: `OPEN` in R6. -/
opaque Config.openIOffset : Word
/-- `FILTER_N` of the machine at reset less one: `OPEN` in R6, at least 1. -/
opaque Config.openFilterNPred : Nat
/-- `HEX_CASE` of the machine at reset: `OPEN` in R6. -/
opaque Config.openHexCase : HexCase
/-- `LINK_TIMEOUT` of the machine at reset: `OPEN` in R6. -/
opaque Config.openLinkTimeout : Nat

/-- What the transport answers to the read drawn as number `n` when the outside has listed no
answer (R10: any byte, any timeout flag). -/
opaque Config.freeLinkAnswer : Nat → LinkAnswer
/-- What the converter answers to the conversion drawn as number `n` when the outside has listed no
answer (R10: any sample or no answer). -/
opaque Config.freeConvAnswer : Nat → ConvAnswer
/-- What the switch inputs read, drawn as number `n`, when the outside has listed no level (R10). -/
opaque Config.freeSwitches : Nat → BitVec 2
/-- `ADC_MUX` after the reset drawn as number `n` (R28, R200: any value). -/
opaque Config.freeAdcMux : Nat → BitVec 2
/-- `ADC_REF` after the reset drawn as number `n` (R28, R200: any value). -/
opaque Config.freeAdcRef : Nat → BitVec 2

/-- The configuration of the machine at reset: the defaults of R6, and an opaque constant for every
parameter R6 leaves `OPEN`. -/
def Config.machine : Config where
  crc6Init    := 0
  dummyByte   := 0x00
  adcBits     := 12
  scaling     := .unspecified
  iOffset     := Config.openIOffset
  filterN     := Config.openFilterNPred + 1
  hexCase     := Config.openHexCase
  errcntBits  := 8
  linkTimeout := Config.openLinkTimeout

end Sys2Proof
end

