-- ==== Sys2Proof/Syntax.lean ====
section
/-! DEFINITION. The syntax of TTC-CORE: axes and channels (10_state.md R21), the ten commands of
the opcode map (30_encoding.md R71), the fields of a command byte (R70) and the reasons a byte is
reserved (R73). -/

namespace Sys2Proof

/-- The two axes (R21). -/
inductive Axis where
  | el   -- elevation, index 0
  | az   -- azimuth, index 1
deriving DecidableEq, Repr, Inhabited

/-- R21: `EL` is index 0, `AZ` is index 1. -/
def Axis.index : Axis → Nat
  | .el => 0
  | .az => 1

/-- The two analog channels (R21). -/
inductive Channel where
  | v   -- voltage, index 0
  | i   -- current, index 1
deriving DecidableEq, Repr, Inhabited

/-- R21: `V` is index 0, `I` is index 1. -/
def Channel.index : Channel → Nat
  | .v => 0
  | .i => 1

/-- The ten commands, one constructor per row of the opcode map (R71).  No command carries an
operand: what it needs stands in `DIN` (R72). -/
inductive Instr where
  | crc6    -- `CRC6`, R102
  | vfy6    -- `VFY6`, R104
  | acqEl   -- `ACQ EL`, R111
  | acqAz   -- `ACQ AZ`, R112
  | rdV     -- `RD V`, R133
  | rdI     -- `RD I`, R135
  | fltV    -- `FLT V`, R151
  | fltI    -- `FLT I`, R152
  | crc8    -- `CRC8`, R163
  | frame   -- `FRAME`, R170
deriving DecidableEq, Repr, Inhabited

/-- The three fields of a command byte (R70). -/
structure CommandFields where
  opc : BitVec 4   -- `cmd[7:4]`
  z   : BitVec 3   -- `cmd[3:1]`, must be zero
  s   : BitVec 1   -- `cmd[0]`, the selector
deriving DecidableEq, Repr

/-- Why a command byte is reserved (R73). -/
inductive Reserved where
  | middleBitsNotZero         -- `cmd[3:1]` is not zero
  | opcodeNotDefined          -- opcode 0x0 or 0x8 to 0xF
  | selectorWithoutOperation  -- selector 1 on an operation without selector
deriving DecidableEq, Repr

end Sys2Proof
end

