-- ==== Sys2Proof/WellFormed.lean ====
section
/-! DEFINITION. Well-formedness: of a command byte's fields (30_encoding.md R70, R73), of an
instruction, and of a configuration (00_scope.md R6, R7, R141). -/

namespace Sys2Proof

/-- R70: `cmd[3:1]` must be zero. -/
def CommandFields.middleOk (f : CommandFields) : Bool := f.z == 0

/-- R71: opcodes 1 to 7 are defined. -/
def CommandFields.opcodeOk (f : CommandFields) : Bool :=
  1 ≤ f.opc.toNat && f.opc.toNat ≤ 7

/-- R70: `ACQ`, `RD` and `FLT` (opcodes 3, 4, 5) have a selector. -/
def CommandFields.hasSelector (f : CommandFields) : Bool :=
  f.opc == 3 || f.opc == 4 || f.opc == 5

/-- R70: the selector is zero where the operation has none. -/
def CommandFields.selectorOk (f : CommandFields) : Bool := f.hasSelector || f.s == 0

/-- The fields of a defined command byte (R71, R73). -/
def CommandFields.wellFormed (f : CommandFields) : Bool :=
  f.middleOk && f.opcodeOk && f.selectorOk

/-- The opcode of a command (R71). -/
def Instr.opcode : Instr → BitVec 4
  | .crc6  => 1
  | .vfy6  => 2
  | .acqEl => 3
  | .acqAz => 3
  | .rdV   => 4
  | .rdI   => 4
  | .fltV  => 5
  | .fltI  => 5
  | .crc8  => 6
  | .frame => 7

/-- The selector of a command (R71): the axis or the channel, 0 where there is none. -/
def Instr.selector : Instr → BitVec 1
  | .crc6  => 0
  | .vfy6  => 0
  | .acqEl => 0
  | .acqAz => 1
  | .rdV   => 0
  | .rdI   => 1
  | .fltV  => 0
  | .fltI  => 1
  | .crc8  => 0
  | .frame => 0

/-- The fields of a command. -/
def Instr.fields (i : Instr) : CommandFields := ⟨i.opcode, 0, i.selector⟩

/-- An instruction is well formed when its fields are those of a defined command byte.  No command
has an operand (R72), so all ten are. -/
def Instr.wellFormed (i : Instr) : Bool := i.fields.wellFormed

/-- R6: `ADC_BITS` is 1 to 16. -/
def Config.adcBitsOk (c : Config) : Bool := 1 ≤ c.adcBits && c.adcBits ≤ 16

/-- R6: `FILTER_N >= 1`. -/
def Config.filterNOk (c : Config) : Bool := 1 ≤ c.filterN

/-- R6: `ERRCNT_BITS >= 1`. -/
def Config.errcntBitsOk (c : Config) : Bool := 1 ≤ c.errcntBits

/-- The largest converter sample (R79). -/
def Config.maxCode (c : Config) : Nat := 2 ^ c.adcBits - 1

/-- R6: every divisor is at least 1. -/
def LinearScaling.divisorsOk (k : LinearScaling) : Bool :=
  1 ≤ k.voltDen && 1 ≤ k.railDen && 1 ≤ k.coefDen && 1 ≤ k.curDen

/-- The largest rail estimate, from the largest code (R137; the form does not decrease). -/
def LinearScaling.maxRail (k : LinearScaling) (code : Nat) : Nat := code * k.railNum / k.railDen

/-- The largest coefficient (R138). -/
def LinearScaling.maxCoeff (k : LinearScaling) (code : Nat) : Nat :=
  k.maxRail code * k.coefNum / k.coefDen

/-- R7, R141: every intermediate product is below 2^32.  The forms do not decrease, so the largest
code, rail and coefficient decide. -/
def LinearScaling.productsOk (k : LinearScaling) (code : Nat) : Bool :=
  code * k.voltNum < 2 ^ 32 && code * k.railNum < 2 ^ 32 &&
  k.maxRail code * k.coefNum < 2 ^ 32 && code * k.maxCoeff code < 2 ^ 32

/-- R6, R7, R141: every result is below 2^16. -/
def LinearScaling.resultsOk (k : LinearScaling) (code : Nat) : Bool :=
  code * k.voltNum / k.voltDen < 2 ^ 16 && k.maxRail code < 2 ^ 16 &&
  k.maxCoeff code < 2 ^ 16 && code * k.maxCoeff code / k.curDen < 2 ^ 16

/-- R7, R141: the numeric contract.  The unspecified functions meet it by their type: total,
of their operands alone, every result 16 bits. -/
def Config.scalingOk (c : Config) : Bool :=
  match c.scaling with
  | .linear k => k.divisorsOk && k.productsOk c.maxCode && k.resultsOk c.maxCode
  | .unspecified => true

/-- A well-formed configuration (R6): the rules of the spec hold only for these. -/
def Config.wellFormed (c : Config) : Bool :=
  c.adcBitsOk && c.filterNOk && c.errcntBitsOk && c.scalingOk

end Sys2Proof
end

