-- ==== Sys2Proof/Decode.lean ====
section
/-! DEFINITION. Decoding a command byte (30_encoding.md R70 to R73), total on all 256 bytes and
rejecting by name, and the encoder. -/

namespace Sys2Proof

/-- The fields of a command byte (R70). -/
def fieldsOf (b : Byte) : CommandFields where
  opc := b.extractLsb' 4 4
  z   := b.extractLsb' 1 3
  s   := b.extractLsb' 0 1

/-- The opcode map (R71) on fields whose middle bits are zero. -/
def instrOfFields (f : CommandFields) : Except Reserved Instr :=
  match f.opc.toNat, f.s.toNat with
  | 1, 0 => .ok .crc6
  | 2, 0 => .ok .vfy6
  | 3, 0 => .ok .acqEl
  | 3, 1 => .ok .acqAz
  | 4, 0 => .ok .rdV
  | 4, 1 => .ok .rdI
  | 5, 0 => .ok .fltV
  | 5, 1 => .ok .fltI
  | 6, 0 => .ok .crc8
  | 7, 0 => .ok .frame
  | _, _ => if f.opcodeOk then .error .selectorWithoutOperation else .error .opcodeNotDefined

/-- Decoding a command byte: one of the ten commands (R71), or the reason the byte is reserved
(R73). -/
def decode (b : Byte) : Except Reserved Instr :=
  let f := fieldsOf b
  if f.middleOk then instrOfFields f else .error .middleBitsNotZero

/-- The byte with the given fields (R70). -/
def byteOfFields (f : CommandFields) : Byte := f.opc ++ f.z ++ f.s

/-- The command byte of an instruction (R70, R71). -/
def encode (i : Instr) : Byte := byteOfFields i.fields

/-- The instruction the decoder reads from the one-byte command `w` of the opcode table.  A command
is one byte and nothing else (R70). -/
def decodeTableWord (nbits w : Nat) : Option Instr :=
  if nbits = 8 ∧ w < 256 then
    match decode (BitVec.ofNat 8 w) with
    | .ok i => some i
    | .error _ => none
  else none

end Sys2Proof
end

