-- ==== Sys2Proof/Machine/State.lean ====
section
/-! DEFINITION. The state of TTC-CORE as plain data (10_state.md R20 to R33), with what the outside
holds for it: the host's coming actions, the listed answers of the link, the converter and the
switches, and the record of external events (20_memory.md R63).  And the state after reset
(70_reset_and_hazards.md R200). -/

namespace Sys2Proof.Machine

/-- Why a step faults. -/
inductive Fault where
  /-- A filter index that names no slot of its channel's buffer.  Raised by `FLT V` and `FLT I` on
  a state whose `FIDX[c]` is not below `FILTER_N`; R51 says no access is out of range, and no state
  that meets `State.Inv` raises it.  Safe: the machine stops. -/
  | slotOutOfRange (c : Channel) (i : Nat)
deriving DecidableEq, Repr

/-- Why a step is refused. -/
inductive Refusal where
  /-- An instruction with no meaning in this model.  Raised by no arm.  Safe. -/
  | notModelled (mnemonic : String)
  /-- A command byte that R73 reserves: "a model refuses it by name".  Raised when the host presents
  it.  Safe: the machine stops. -/
  | reservedCommand (b : Byte) (why : Reserved)
  /-- A configuration outside the constraints of R6, R7: the rules hold only for well-formed ones
  (U13: refuse).  Raised by every step on such a configuration.  Safe: the machine stops. -/
  | illFormedConfiguration
deriving DecidableEq, Repr

/-- One AngleReading, `ANGLE[a]` (R22). -/
structure AngleReading where
  angle    : Word       -- hundredths of a degree (R78)
  field    : BitVec 2   -- magnetic-field status, 3 stored as received (R77)
  button   : Bool       -- push button
  track    : Bool       -- loss of track
  crcValid : Bool       -- `crc_valid`
deriving DecidableEq, Repr

/-- A buffer memory `FBUF[c]` (R50, R51): pairs of slot index and 16-bit entry, indices strictly
rising, no entry 0.  A slot that is not listed holds 0. -/
abbrev Memory := List (Nat × Word)

/-- One AnalogChannel (R20): `RAW[c]`, `SMOOTH[c]`, `FIDX[c]`, `FBUF[c]`. -/
structure AnalogChannel where
  raw    : Word
  smooth : Word
  fidx   : Nat      -- 0 .. `FILTER_N` - 1 (R25)
  fbuf   : Memory
deriving DecidableEq, Repr

/-- CommunicationStatus (R27). -/
structure CommStatus where
  error   : Bool
  errcnt  : Nat     -- below 2^`ERRCNT_BITS`
  warning : Bool
deriving DecidableEq, Repr

/-- `LNK_PHASE` (R30): the shifter's position. -/
inductive LnkPhase where
  | idle | sel | b0 | b1 | b2 | desel
deriving DecidableEq, Repr

/-- The 3-bit code of `LNK_PHASE` (R30). -/
def LnkPhase.code : LnkPhase → BitVec 3
  | .idle => 0 | .sel => 1 | .b0 => 2 | .b1 => 3 | .b2 => 4 | .desel => 5

/-- `AFE_PHASE` (R30): the ranging sequencer's position. -/
inductive AfePhase where
  | idle | vConv | railConv | curConv
deriving DecidableEq, Repr

/-- The 3-bit code of `AFE_PHASE` (R30). -/
def AfePhase.code : AfePhase → BitVec 3
  | .idle => 0 | .vConv => 1 | .railConv => 2 | .curConv => 3

/-- The external events of the trace (R63). -/
inductive Event where
  | selLow (a : Axis)
  | selHigh (a : Axis)
  | send (v : Byte)
  | read (v : Byte) (timedOut : Bool)
  | select (ch ref : BitVec 2)
  | convert (code : Word)
  | sw (s : BitVec 2)
  | tx (bytes : List Byte)
deriving DecidableEq, Repr

/-- The advisory events an operation raises (R181, R182), with the arguments a trace names. -/
inductive Advisory where
  | linkTimeout (a : Axis) (k : Fin 3)
  | crc6Mismatch (a : Axis)
deriving DecidableEq, Repr

/-- What the host does to the core, one action a step (R190, R193, R195). -/
inductive HostAction where
  | command (b : Byte)                      -- present a command byte to the idle core
  | commandThenReset (b : Byte) (k : Nat)   -- the same, and reset once `k` external events happened (R201)
  | writeDin (v : BitVec 64)
  | writeError (v : Bool)
  | writeErrcnt (v : Nat)
  | clearWarning                            -- `.clrwarn` (R184)
  | reset                                   -- `.reset` (R201)
deriving DecidableEq, Repr

/-- The state of the machine. -/
structure State where
  -- the configuration: a parameter of the step, changed by none (R6, R20)
  cfg      : Config
  -- data registers (R22)
  angleEl  : AngleReading
  angleAz  : AngleReading
  chanV    : AnalogChannel
  chanI    : AnalogChannel
  rail     : Word
  coeff    : Word
  din      : BitVec 64
  sr24     : BitVec 24
  rPay     : BitVec 18
  rCrc     : Byte
  fOk      : Bool
  rWord    : BitVec 64
  -- control and status (R27, R28, R29, R30)
  comm     : CommStatus
  adcMux   : BitVec 2
  adcRef   : BitVec 2
  selEl    : Bool       -- true is 1, de-asserted
  selAz    : Bool
  busy     : Bool
  lnkPhase : LnkPhase
  afePhase : AfePhase
  -- the outside: what the host will do, what the external parties will answer (R10, R193)
  hostQueue      : List HostAction
  linkAnswers    : List LinkAnswer
  convAnswers    : List ConvAnswer
  switchAnswers  : List (BitVec 2)
  draws          : Nat  -- the model's own: numbers the answers taken so far
  -- observation (R63, R9)
  trace    : List Event      -- oldest first
  raised   : List Advisory   -- oldest first, since reset
deriving DecidableEq, Repr

/-- An AngleReading after reset (R200). -/
def AngleReading.reset : AngleReading := ⟨0, 0, false, false, false⟩

/-- An AnalogChannel after reset (R200): the filter history is zero. -/
def AnalogChannel.reset : AnalogChannel := ⟨0, 0, 0, []⟩

/-- CommunicationStatus after reset (R200). -/
def CommStatus.reset : CommStatus := ⟨false, 0, false⟩

/-- The state after a reset of a core with configuration `cfg` (R200), nothing listed outside.
`ADC_MUX` and `ADC_REF` hold any value: the free values drawn as number `n`. -/
def State.resetOf (cfg : Config) (n : Nat) : State where
  cfg      := cfg
  angleEl  := AngleReading.reset
  angleAz  := AngleReading.reset
  chanV    := AnalogChannel.reset
  chanI    := AnalogChannel.reset
  rail     := 0
  coeff    := 0
  din      := 0
  sr24     := 0
  rPay     := 0
  rCrc     := 0
  fOk      := false
  rWord    := 0
  comm     := CommStatus.reset
  adcMux   := Config.freeAdcMux n
  adcRef   := Config.freeAdcRef n
  selEl    := true
  selAz    := true
  busy     := false
  lnkPhase := .idle
  afePhase := .idle
  hostQueue     := []
  linkAnswers   := []
  convAnswers   := []
  switchAnswers := []
  draws    := n + 1
  trace    := []
  raised   := []

/-- The machine right after power-on reset (R200): the core is idle, no command is pending, and it
waits for the host's first command (R202). -/
def State.reset : State := State.resetOf Config.machine 0

end Sys2Proof.Machine
end

