-- ==== Sys2Proof/Machine/Ops.lean ====
section
/-! DEFINITION. The named operations over memory and registers: the slots of `FBUF`, the register
groups, the external primitives of 00_scope.md R9, the taking and the completion of a command, and
raising an advisory event. -/

namespace Sys2Proof.Machine

/-! ### Buffer memories (20_memory.md R50, R51) -/

/-- `MemRead(FBUF[c], i)`: the value last written to slot `i`, 0 if none was (R51). -/
def Memory.read : Memory → Nat → Word
  | [], _ => 0
  | (k, v) :: m, i => if k = i then v else Memory.read m i

/-- `MemWrite(FBUF[c], i, v)`: slot `i` now holds `v` (R51).  Writing 0 unlists the slot, so equal
buffers are equal data. -/
def Memory.write : Memory → Nat → Word → Memory
  | [], i, v => if v = 0 then [] else [(i, v)]
  | (k, w) :: m, i, v =>
    if i < k then (if v = 0 then (k, w) :: m else (i, v) :: (k, w) :: m)
    else if i = k then (if v = 0 then m else (i, v) :: m)
    else (k, w) :: Memory.write m i v

/-- The canonical form above a bound: indices strictly rising from `lo`, below `n`, no entry 0. -/
def Memory.wfFrom (n : Nat) : Nat → Memory → Bool
  | _, [] => true
  | lo, (k, v) :: m => lo ≤ k && k < n && v != 0 && Memory.wfFrom n (k + 1) m

/-- The canonical form of a buffer of `n` slots. -/
def Memory.wf (n : Nat) (m : Memory) : Bool := Memory.wfFrom n 0 m

/-- The sum of slots 0 to `n` - 1, exact (R150, R155). -/
def Memory.sum (m : Memory) : Nat → Nat
  | 0 => 0
  | n + 1 => Memory.sum m n + (m.read n).toNat

/-! ### Register groups (10_state.md R20) -/

/-- `ANGLE[a]`. -/
def State.angle (s : State) : Axis → AngleReading
  | .el => s.angleEl
  | .az => s.angleAz

/-- `ANGLE[a] <- r`, all five fields together (R24, R120). -/
def State.setAngle (s : State) (a : Axis) (r : AngleReading) : State :=
  match a with
  | .el => { s with angleEl := r }
  | .az => { s with angleAz := r }

/-- The group of channel `c`: `RAW[c]`, `SMOOTH[c]`, `FIDX[c]`, `FBUF[c]`. -/
def State.chan (s : State) : Channel → AnalogChannel
  | .v => s.chanV
  | .i => s.chanI

/-- Replaces the group of channel `c`. -/
def State.setChan (s : State) (c : Channel) (g : AnalogChannel) : State :=
  match c with
  | .v => { s with chanV := g }
  | .i => { s with chanI := g }

/-- `MemRead(FBUF[c], j)` on a state. -/
def State.slot (s : State) (c : Channel) (j : Nat) : Word := (s.chan c).fbuf.read j

/-- The level of `SEL[a]` (R29): true is 1, de-asserted. -/
def State.sel (s : State) : Axis → Bool
  | .el => s.selEl
  | .az => s.selAz

/-! ### Commands (10_state.md R30) -/

/-- Taking a command: `BUSY <- 1`. -/
def State.take (s : State) : State := { s with busy := true }

/-- Completing a command: `BUSY <- 0`. -/
def State.complete (s : State) : State := { s with busy := false }

/-! ### External events and advisory events (00_scope.md R9, 20_memory.md R63) -/

/-- Records an external event. -/
def State.emit (s : State) (e : Event) : State := { s with trace := s.trace ++ [e] }

/-- `raise` (R9, R181, R182, R188): the event is recorded and its flag set, nothing is saved and
control goes nowhere.  `LinkTimeout` sets `COMM.warning`; the flags of `Crc6Mismatch`, `F_OK` and
`ANGLE[a].crc_valid`, are the ones every `ACQ a` writes (R182) and are written there. -/
def State.raise (s : State) (e : Advisory) : State :=
  match e with
  | .linkTimeout _ _ =>
    { s with comm := { s.comm with warning := true }, raised := s.raised ++ [e] }
  | .crc6Mismatch _ => { s with raised := s.raised ++ [e] }

/-- `SEL[a] <- 0`: drive the line low (R113); event `SelLow(a)`. -/
def State.selectAssert (s : State) (a : Axis) : State :=
  match a with
  | .el => { s with selEl := false }.emit (.selLow .el)
  | .az => { s with selAz := false }.emit (.selLow .az)

/-- `SEL[a] <- 1`: drive the line high (R113); event `SelHigh(a)`. -/
def State.selectRelease (s : State) (a : Axis) : State :=
  match a with
  | .el => { s with selEl := true }.emit (.selHigh .el)
  | .az => { s with selAz := true }.emit (.selHigh .az)

/-- `LinkSend(v)` (R9): always accepted (R122); event `Send(v)`. -/
def State.linkSend (s : State) (v : Byte) : State := s.emit (.send v)

/-- The transport's answer to the `k`-th read from here: the listed one, else a free value. -/
def State.linkAnswer (s : State) (k : Nat) : LinkAnswer :=
  s.linkAnswers.getD k (Config.freeLinkAnswer (s.draws + k))

/-- `LinkRead()` takes the next answer; event `Read(v, to)`.  Returns the answer. -/
def State.linkRead (s : State) : LinkAnswer × State :=
  let r := s.linkAnswer 0
  (r, { s with linkAnswers := s.linkAnswers.tail, draws := s.draws + 1 }.emit
        (.read r.value r.timedOut))

/-- `AdcSelect(ch, ref)` (R28); event `Select(ch, ref)`. -/
def State.adcSelect (s : State) (ch ref : BitVec 2) : State :=
  { s with adcMux := ch, adcRef := ref }.emit (.select ch ref)

/-- A converter code has `ADC_BITS` bits (R79). -/
def truncCode (c : Config) (code : Word) : Word :=
  Word.ofNat (code.toNat % 2 ^ c.adcBits)

/-- What the converter's answer brings to the core: a sample of `ADC_BITS` bits (R79, R144), or
nothing ever (R143). -/
def sampleOf (c : Config) : ConvAnswer → Option Word
  | .sample code => some (truncCode c code)
  | .never => none

/-- The converter's answer to the `k`-th conversion from here: the listed one, else a free value. -/
def State.convAnswer (s : State) (k : Nat) : Option Word :=
  sampleOf s.cfg (s.convAnswers.getD k (Config.freeConvAnswer (s.draws + k)))

/-- Takes the converter's next answer. -/
def State.popConv (s : State) : State :=
  { s with convAnswers := s.convAnswers.tail, draws := s.draws + 1 }

/-- `AdcConvert()` (R9, R143): the sample with event `Convert(code)`, or `none` where the converter
never answers, and then nothing more happens. -/
def State.adcConvert (s : State) : Option Word × State :=
  match s.convAnswer 0 with
  | some code => (some code, s.popConv.emit (.convert code))
  | none => (none, s.popConv)

/-- The levels of the switch inputs at the next sample: the listed ones, else a free value. -/
def State.switchAnswer (s : State) : BitVec 2 :=
  s.switchAnswers.headD (Config.freeSwitches s.draws)

/-- `SwRead()` (R33): samples the two switch inputs; event `Sw(s)`.  Returns the levels. -/
def State.swRead (s : State) : BitVec 2 × State :=
  (s.switchAnswer,
   { s with switchAnswers := s.switchAnswers.tail, draws := s.draws + 1 }.emit
     (.sw s.switchAnswer))

/-- `TxEmit(bytes)` (R9, R173): never blocks; event `Tx(bytes)`. -/
def State.txEmit (s : State) (bytes : List Byte) : State := s.emit (.tx bytes)

/-! ### Reset (70_reset_and_hazards.md R200 to R202) -/

/-- The state after the host applies `.reset`: every register at its reset value; the outside keeps
what it has, and events already emitted stay emitted (R201, R202). -/
def State.applyReset (s : State) : State :=
  { State.resetOf s.cfg s.draws with
    hostQueue     := s.hostQueue
    linkAnswers   := s.linkAnswers
    convAnswers   := s.convAnswers
    switchAnswers := s.switchAnswers
    trace         := s.trace }

end Sys2Proof.Machine
end

