-- ==== Sys2Proof/Machine/Operands.lean ====
section
/-! DEFINITION. The operand forms: what each command reads from `DIN` (30_encoding.md R72), the
fields of a sensor frame and of its payload (R75, R76), the assembly of a frame from bytes
(20_memory.md R54), the bytes of a CRC-8 operand (R84, 44_crc8_frame_checksum.md R161) and the
codes of the converter's inputs and references (10_state.md R28). -/

namespace Sys2Proof.Machine

/-- The operand of `CRC6`: `DIN[17:0]` (R102). -/
def State.dinPayload (s : State) : BitVec 18 := s.din.extractLsb' 0 18

/-- The operand of `VFY6`: `DIN[23:0]` (R104). -/
def State.dinFrame (s : State) : BitVec 24 := s.din.extractLsb' 0 24

/-- `frame[23:6]` (R75). -/
def framePayload (f : BitVec 24) : BitVec 18 := f.extractLsb' 6 18

/-- `frame[5:0]` (R75). -/
def frameCrc (f : BitVec 24) : BitVec 6 := f.extractLsb' 0 6

/-- `payload[17:4]`, the raw angle code (R76). -/
def payloadRaw (p : BitVec 18) : BitVec 14 := p.extractLsb' 4 14

/-- `payload[3:2]`, the magnetic-field status (R76). -/
def payloadField (p : BitVec 18) : BitVec 2 := p.extractLsb' 2 2

/-- `payload[1]`, the push button (R76). -/
def payloadButton (p : BitVec 18) : Bool := p.getLsbD 1

/-- `payload[0]`, the track status, 1 meaning loss of track (R76). -/
def payloadTrack (p : BitVec 18) : Bool := p.getLsbD 0

/-- The three bytes of a frame, first byte most significant (R54). -/
def frameOfBytes (b0 b1 b2 : Byte) : BitVec 24 := b0 ++ b1 ++ b2

/-- `v[6k+5 : 6k]`, a 6-bit chunk of a payload (R100). -/
def payloadChunk (p : BitVec 18) (k : Nat) : BitVec 6 := p.extractLsb' (6 * k) 6

/-- `data[8k+7 : 8k]` (R160). -/
def byteAt (data : BitVec 64) (k : Nat) : Byte := data.extractLsb' (8 * k) 8

/-- The smallest `m <= n` with `d < 2^(8m)`, for a `d` below `2^(8n)`. -/
def nbytesUpTo (d : Nat) : Nat → Nat
  | 0 => 0
  | n + 1 => if d < 2 ^ (8 * n) then nbytesUpTo d n else n + 1

/-- `nbytes(data)` (R84, R161): the number of significant bytes, 0 to 8. -/
def nbytes (data : BitVec 64) : Nat := nbytesUpTo data.toNat 8

/-- Codes of the converter inputs (R28). -/
def chVolt : BitVec 2 := 0
/-- `CH_CURR` (R28). -/
def chCurr : BitVec 2 := 1
/-- `CH_SUPPLY` (R28). -/
def chSupply : BitVec 2 := 2
/-- `REF_VOLT` (R28). -/
def refVolt : BitVec 2 := 0
/-- `REF_LOW` (R28). -/
def refLow : BitVec 2 := 1
/-- `REF_RAIL` (R28). -/
def refRail : BitVec 2 := 2

end Sys2Proof.Machine
end

