-- ==== Sys2Proof/Machine/Flags.lean ====
section
/-! DEFINITION. The flags of the block, all advisory (10_state.md R26), and the three error classes
with their labels (60_exceptions.md R180, R183). -/

namespace Sys2Proof.Machine

/-- The flag computation of `VFY6` and `ACQ a` (R103): received CRC equal to recomputed CRC. -/
def crcMatches (received recomputed : BitVec 6) : Bool := decide (recomputed = received)

/-- `LinkTimeout(a, k)` is raised exactly when the read timed out (R115, R181). -/
def State.raiseIfTimedOut (s : State) (a : Axis) (k : Fin 3) (timedOut : Bool) : State :=
  if timedOut then s.raise (.linkTimeout a k) else s

/-- `Crc6Mismatch(a)` is raised exactly when the check failed (R110, R182). -/
def State.raiseIfMismatch (s : State) (a : Axis) (ok : Bool) : State :=
  if ok then s else s.raise (.crc6Mismatch a)

/-- The three error classes (R180). -/
inductive ErrorClass where
  | linkTimeout
  | crc6Mismatch
  | converterHang
deriving DecidableEq, Repr

/-- R183: labels for reference in traces and tests, stored nowhere in the hardware. -/
def errorLabel : ErrorClass → Nat
  | .linkTimeout => 1
  | .crc6Mismatch => 2
  | .converterHang => 3

/-- The class of an advisory event. -/
def advisoryClass : Advisory → ErrorClass
  | .linkTimeout _ _ => .linkTimeout
  | .crc6Mismatch _ => .crc6Mismatch

/-- `ConverterHang` (R186): an operation is running and waits for a conversion.  At an operation
boundary this is the only way `BUSY` can be 1 (R30). -/
def State.hung (s : State) : Bool := s.busy && s.afePhase != .idle

end Sys2Proof.Machine
end

