-- ==== Sys2Proof/Machine/AnalogFrontEnd.lean ====
section
/-! DEFINITION. The AnalogFrontEnd (42_adc_autorange_fsm.md): the scaling functions, the two reads
with the FSM of R136 as their order of steps, and the commands `RD V` and `RD I`. -/

namespace Sys2Proof.Machine

/-- `ScaleV(code)` (R140): the default form, or the function the configuration leaves open. -/
def scaleV (c : Config) (code : Word) : Word :=
  match c.scaling with
  | .linear k => Word.ofNat (code.toNat * k.voltNum / k.voltDen)
  | .unspecified => Config.freeScaleV code

/-- `RailEst(code)` (R137, R140). -/
def railEst (c : Config) (code : Word) : Word :=
  match c.scaling with
  | .linear k => Word.ofNat (code.toNat * k.railNum / k.railDen)
  | .unspecified => Config.freeRailEst code

/-- `Coeff(rail)` (R138, R140). -/
def coeffOf (c : Config) (rail : Word) : Word :=
  match c.scaling with
  | .linear k => Word.ofNat (rail.toNat * k.coefNum / k.coefDen)
  | .unspecified => Config.freeCoeff rail

/-- `ScaleI(code, coeff)` (R139, R140). -/
def scaleI (c : Config) (code coeff : Word) : Word :=
  match c.scaling with
  | .linear k => Word.ofNat (code.toNat * coeff.toNat / k.curDen)
  | .unspecified => Config.freeScaleI code coeff

/-- The offset removed with a clamp at zero (R134, R139). -/
def removeOffset (scaled offset : Word) : Word :=
  if offset < scaled then scaled - offset else 0

/-- How a front-end read ends: completed, or waiting for ever for a conversion (R143). -/
inductive ReadEnd where
  | done (s : State)
  | hung (s : State)

/-- `read_voltage()` (R132). -/
def State.readVoltage (s : State) : ReadEnd :=
  let s := { s.adcSelect chVolt refVolt with afePhase := .vConv }
  match s.adcConvert with
  | (none, s) => .hung s
  | (some code, s) =>
    .done { s with afePhase := .idle, chanV := { s.chanV with raw := scaleV s.cfg code } }

/-- Phases 2 and 3 of `read_current()` (R134), after the supply-sense sample `codeS`. -/
def State.readCurrentFrom (s : State) (codeS : Word) : ReadEnd :=
  let s := { s with rail := railEst s.cfg codeS }
  let s := { s with coeff := coeffOf s.cfg s.rail }
  let s := { s.adcSelect chCurr refRail with afePhase := .curConv }
  match s.adcConvert with
  | (none, s) => .hung s
  | (some codeI, s) =>
    let scaled := scaleI s.cfg codeI s.coeff
    .done { s with
      afePhase := .idle
      chanI := { s.chanI with raw := removeOffset scaled s.cfg.iOffset } }

/-- `read_current()` (R134). -/
def State.readCurrent (s : State) : ReadEnd :=
  let s := { s.adcSelect chSupply refLow with afePhase := .railConv }
  match s.adcConvert with
  | (none, s) => .hung s
  | (some codeS, s) => s.readCurrentFrom codeS

/-- The front-end read of a channel (R130). -/
def State.readChannel (s : State) : Channel → ReadEnd
  | .v => s.readVoltage
  | .i => s.readCurrent

/-- The state an operation leaves: completed after `after`, or hung with `BUSY` still 1 and nothing
later done (R186). -/
def ReadEnd.settle (e : ReadEnd) (after : State → State) : State :=
  match e with
  | .done s => (after s).complete
  | .hung s => s

/-- `RD V` (R133). -/
def execRdV (s : State) : Host.Outcome State Fault Refusal :=
  .next (s.take.readVoltage.settle id)

/-- `RD I` (R135). -/
def execRdI (s : State) : Host.Outcome State Fault Refusal :=
  .next (s.take.readCurrent.settle id)

end Sys2Proof.Machine
end

