-- ==== Sys2Proof/Machine/Checksum.lean ====
section
/-! DEFINITION. The ChecksumEngine: CRC-6 (40_crc6_validator.md) and CRC-8
(44_crc8_frame_checksum.md section 1), with the commands `CRC6`, `VFY6` and `CRC8`. -/

namespace Sys2Proof.Machine

/-- `crc6(p)` from the starting value `init` (R100): three table steps, most significant chunk
first. -/
def crc6 (init : BitVec 6) (p : BitVec 18) : BitVec 6 :=
  let i := init ^^^ payloadChunk p 2
  let i := payloadChunk p 1 ^^^ readT6 i
  let i := payloadChunk p 0 ^^^ readT6 i
  readT6 i

/-- One serial step of the CRC-6 register (R101): the bit `b` is fed in. -/
def crc6Step (r : BitVec 6) (b : Bool) : BitVec 6 :=
  if r.getLsbD 5 ^^ b then (r <<< 1) ^^^ 0x03 else r <<< 1

/-- The serial loop over bits `n - 1` down to 0 of `v` (R101; R106 runs it over 24 bits). -/
def crc6Bits {w : Nat} (v : BitVec w) : Nat → BitVec 6 → BitVec 6
  | 0, r => r
  | n + 1, r => crc6Bits v n (crc6Step r (v.getLsbD n))

/-- `crc6_serial(p)` (R101). -/
def crc6Serial (init : BitVec 6) (p : BitVec 18) : BitVec 6 := crc6Bits p 18 init

/-- What `verify_and_strip` returns (R103). -/
structure Verified where
  payload : BitVec 18
  ok      : Bool
  crc     : BitVec 6
deriving DecidableEq, Repr

/-- `verify_and_strip(f)` (R103). -/
def verifyAndStrip (init : BitVec 6) (f : BitVec 24) : Verified :=
  let payload := framePayload f
  let crc := crc6 init payload
  ⟨payload, crcMatches (frameCrc f) crc, crc⟩

/-- `R_PAY`, `R_CRC` and `F_OK` written from a verification (R104, R116). -/
def State.writeVerified (s : State) (v : Verified) : State :=
  { s with rPay := v.payload, rCrc := v.crc.zeroExtend 8, fOk := v.ok }

/-- The loop of `crc8` over bytes `k - 1` down to 0 (R160). -/
def crc8Bytes (data : BitVec 64) : Nat → Byte → Byte
  | 0, r => r
  | k + 1, r => crc8Bytes data k (readT8 (r ^^^ byteAt data k))

/-- `crc8(data)` (R160): the significant bytes, most significant first, from 0xFF. -/
def crc8 (data : BitVec 64) : Byte := crc8Bytes data (nbytes data) 0xFF

/-- One serial step of the CRC-8 register (R162). -/
def crc8Step (r : Byte) (b : Bool) : Byte :=
  if r.getLsbD 7 ^^ b then (r <<< 1) ^^^ 0x9B else r <<< 1

/-- The serial loop over bits `n - 1` down to 0 (R162). -/
def crc8Bits (data : BitVec 64) : Nat → Byte → Byte
  | 0, r => r
  | n + 1, r => crc8Bits data n (crc8Step r (data.getLsbD n))

/-- `crc8_serial(data)` (R162). -/
def crc8Serial (data : BitVec 64) : Byte := crc8Bits data (8 * nbytes data) 0xFF

/-- `CRC6` (R102): `R_CRC <- zext_8(crc6(DIN[17:0]))`. -/
def execCrc6 (s : State) : Host.Outcome State Fault Refusal :=
  let t := s.take
  .next { t with rCrc := (crc6 t.cfg.crc6Init t.dinPayload).zeroExtend 8 }.complete

/-- `VFY6` (R104): a mismatch is reported by `F_OK` alone; no event is raised. -/
def execVfy6 (s : State) : Host.Outcome State Fault Refusal :=
  let t := s.take
  .next (t.writeVerified (verifyAndStrip t.cfg.crc6Init t.dinFrame)).complete

/-- `CRC8` (R163): `R_CRC <- crc8(DIN)`. -/
def execCrc8 (s : State) : Host.Outcome State Fault Refusal :=
  let t := s.take
  .next { t with rCrc := crc8 t.din }.complete

end Sys2Proof.Machine
end

