-- ==== Sys2Proof/Machine/AngleLink.lean ====
section
/-! DEFINITION. The AngleSensorLink (41_angle_frame_shifter.md): the operation `acquire(a)` and the
commands `ACQ EL` and `ACQ AZ`. -/

namespace Sys2Proof.Machine

/-- `angle_scale(raw)` (R118): hundredths of a degree, nearest, ties up. -/
def angleScale (raw : BitVec 14) : Word := Word.ofNat ((raw.toNat * 1125 + 256) >>> 9)

/-- The AngleReading of a verified frame (R117, R118, R120). -/
def readingOf (v : Verified) : AngleReading where
  angle    := angleScale (payloadRaw v.payload)
  field    := payloadField v.payload
  button   := payloadButton v.payload
  track    := payloadTrack v.payload
  crcValid := v.ok

/-- The phase in which byte `k` is waited for: `L_B0 + k` (R30, R110). -/
def LnkPhase.ofByte : Fin 3 → LnkPhase
  | 0 => .b0
  | 1 => .b1
  | 2 => .b2

/-- Step 2 of the protocol for byte `k` (R114, R115): send the dummy, read the byte, raise
`LinkTimeout` if the read timed out.  Returns the byte. -/
def State.shiftByte (s : State) (a : Axis) (k : Fin 3) : Byte × State :=
  let s := { s with lnkPhase := LnkPhase.ofByte k }
  let (r, s) := (s.linkSend s.cfg.dummyByte).linkRead
  (r.value, s.raiseIfTimedOut a k r.timedOut)

/-- `acquire(a)` (R110). -/
def State.acquire (s : State) (a : Axis) : State :=
  let s := { s.selectAssert a with lnkPhase := .sel }
  let (b0, s) := s.shiftByte a 0
  let (b1, s) := s.shiftByte a 1
  let (b2, s) := s.shiftByte a 2
  let s := { s with lnkPhase := .desel }.selectRelease a
  let s := { s with sr24 := frameOfBytes b0 b1 b2 }
  let v := verifyAndStrip s.cfg.crc6Init s.sr24
  let s := (s.writeVerified v).raiseIfMismatch a v.ok
  { s.setAngle a (readingOf v) with lnkPhase := .idle }

/-- `ACQ EL` (R111). -/
def execAcqEl (s : State) : Host.Outcome State Fault Refusal :=
  .next (s.take.acquire .el).complete

/-- `ACQ AZ` (R112). -/
def execAcqAz (s : State) : Host.Outcome State Fault Refusal :=
  .next (s.take.acquire .az).complete

end Sys2Proof.Machine
end

