-- ==== Sys2Proof/Machine/Framer.lean ====
section
/-! DEFINITION. The TelemetryFramer (44_crc8_frame_checksum.md sections 2 to 4): the packer, the
renderer, the command `FRAME`, and what a receiver computes from a frame (R172). -/

namespace Sys2Proof.Machine

/-- `pack(e, a, v, c, s)` (R166; layout R80). -/
def pack (e a v c : Word) (s : BitVec 2) : BitVec 64 :=
  (e.zeroExtend 64 <<< 44) ||| (a.zeroExtend 64 <<< 28) |||
  ((v.extractLsb' 0 12).zeroExtend 64 <<< 16) ||| ((c.extractLsb' 0 12).zeroExtend 64 <<< 4) |||
  s.zeroExtend 64

/-- `hexdigit` (R83). -/
def hexDigit (h : HexCase) (d : BitVec 4) : Byte :=
  if d.toNat < 10 then BitVec.ofNat 8 (0x30 + d.toNat)
  else match h with
    | .lower => BitVec.ofNat 8 (0x61 + (d.toNat - 10))
    | .upper => BitVec.ofNat 8 (0x41 + (d.toNat - 10))

/-- `v[4k+3 : 4k]`. -/
def nibbleAt {w : Nat} (v : BitVec w) (k : Nat) : BitVec 4 := v.extractLsb' (4 * k) 4

/-- The hexadecimal digits of nibbles `n - 1` down to 0. -/
def hexDigits {w : Nat} (h : HexCase) (v : BitVec w) : Nat → List Byte
  | 0 => []
  | n + 1 => hexDigit h (nibbleAt v n) :: hexDigits h v n

/-- `render(word, n)` (R168; layout R82): 21 bytes. -/
def render (h : HexCase) (word : BitVec 64) (crc : Byte) : List Byte :=
  [0x3C] ++ hexDigits h word 15 ++ hexDigits h crc 2 ++ [0x3E, 0x0D, 0x0A]

/-- `frame()` (R169). -/
def State.frame (s : State) : State :=
  let (sw, s) := s.swRead
  let s := { s with
    rWord := pack s.angleEl.angle s.angleAz.angle s.chanV.smooth s.chanI.smooth sw }
  let s := { s with rCrc := crc8 s.rWord }
  s.txEmit (render s.cfg.hexCase s.rWord s.rCrc)

/-- `FRAME` (R170). -/
def execFrame (s : State) : Host.Outcome State Fault Refusal := .next s.take.frame.complete

/-- The value of a hexadecimal digit of either case, for a receiver (R172). -/
def digitValue (b : Byte) : Option Nat :=
  let n := b.toNat
  if 0x30 ≤ n ∧ n ≤ 0x39 then some (n - 0x30)
  else if 0x61 ≤ n ∧ n ≤ 0x66 then some (n - 0x61 + 10)
  else if 0x41 ≤ n ∧ n ≤ 0x46 then some (n - 0x41 + 10)
  else none

/-- Digits read as one number, most significant first (R172). -/
def parseDigits (acc : Nat) : List Byte → Option Nat
  | [] => some acc
  | b :: bs =>
    match digitValue b with
    | some d => parseDigits (16 * acc + d) bs
    | none => none

/-- What a receiver does with the 21 bytes of a frame (R172): the 15 data digits as one number,
accepted when its CRC-8 equals the two digits after them. -/
def receive (bytes : List Byte) : Option (BitVec 64) :=
  match parseDigits 0 ((bytes.drop 1).take 15), parseDigits 0 ((bytes.drop 16).take 2) with
  | some n, some c => if (crc8 (BitVec.ofNat 64 n)).toNat = c then some (BitVec.ofNat 64 n) else none
  | _, _ => none

end Sys2Proof.Machine
end

