-- ==== Sys2Proof/Machine/Smoothing.lean ====
section
/-! DEFINITION. The SmoothingFilter (43_moving_average_filter.md): `filter_step(c)` and the commands
`FLT V` and `FLT I`. -/

namespace Sys2Proof.Machine

/-- What `filter_step` does to a channel after its read (R150): write the slot, advance the index,
recompute the mean of all slots. -/
def AnalogChannel.average (g : AnalogChannel) (n : Nat) : AnalogChannel :=
  let g := { g with fbuf := g.fbuf.write g.fidx g.raw }
  let g := { g with fidx := (g.fidx + 1) % n }
  { g with smooth := Word.ofNat (g.fbuf.sum n / n) }

/-- `average` on channel `c` of a state. -/
def State.average (s : State) (c : Channel) : State :=
  s.setChan c ((s.chan c).average s.cfg.filterN)

/-- `filter_step(c)` (R150): the read, then the average; if the read hangs the buffer, the index and
`SMOOTH[c]` are unchanged (R151, R152).  R51: the index names a slot; where it does not, the access
would be to an entry that does not exist, and the machine stops (log entry 11). -/
def State.filterStep (s : State) (c : Channel) : Host.Outcome State Fault Refusal :=
  if (s.chan c).fidx < s.cfg.filterN then
    .next ((s.readChannel c).settle (fun t => t.average c))
  else .fault (.slotOutOfRange c (s.chan c).fidx)

/-- `FLT V` (R151). -/
def execFltV (s : State) : Host.Outcome State Fault Refusal := s.take.filterStep .v

/-- `FLT I` (R152). -/
def execFltI (s : State) : Host.Outcome State Fault Refusal := s.take.filterStep .i

end Sys2Proof.Machine
end

