-- ==== Sys2Proof/Machine/Dispatch.lean ====
section
/-! DEFINITION. Dispatch: one arm per command of the opcode map (30_encoding.md R71). -/

namespace Sys2Proof.Machine

def exec (i : Instr) (s : State) : Host.Outcome State Fault Refusal :=
  match i with
  | .crc6 => Sys2Proof.Machine.execCrc6 s
  | .vfy6 => Sys2Proof.Machine.execVfy6 s
  | .acqEl => Sys2Proof.Machine.execAcqEl s
  | .acqAz => Sys2Proof.Machine.execAcqAz s
  | .rdV => Sys2Proof.Machine.execRdV s
  | .rdI => Sys2Proof.Machine.execRdI s
  | .fltV => Sys2Proof.Machine.execFltV s
  | .fltI => Sys2Proof.Machine.execFltI s
  | .crc8 => Sys2Proof.Machine.execCrc8 s
  | .frame => Sys2Proof.Machine.execFrame s

end Sys2Proof.Machine
end

