-- ==== Sys2Proof/Machine/HostPort.lean ====
section
/-! DEFINITION. The host's side of a step: how the next host action is taken (00_scope.md R11,
60_exceptions.md R184, R190, R193, R195, 70_reset_and_hazards.md R201), and the assembler lines of
30_encoding.md R74 as host actions. -/

namespace Sys2Proof.Machine

/-- Presenting a command byte to the idle core: the decoded command runs (R11), a reserved byte is
refused by name (R73). -/
def State.runCommand (s : State) (b : Byte) : Host.Outcome State Fault Refusal :=
  match decode b with
  | .ok i => exec i s
  | .error why => .refused (.reservedCommand b why)

/-- Replays on the outside's lists the answers that the external events `es` took: one per `Read`,
`Convert` and `Sw`. -/
def State.takeAnswers (s : State) : List Event → State
  | [] => s
  | e :: es =>
    match e with
    | .read _ _ =>
      ({ s with linkAnswers := s.linkAnswers.tail, draws := s.draws + 1 }).takeAnswers es
    | .convert _ => s.popConv.takeAnswers es
    | .sw _ =>
      ({ s with switchAnswers := s.switchAnswers.tail, draws := s.draws + 1 }).takeAnswers es
    | _ => s.takeAnswers es

/-- A reset applied while an operation runs (R201).  `s` is the state before the operation, `t` the
state the whole operation would leave, `k` how many of its external events had happened: those stay
emitted and their answers stay taken, and all registers take the reset values.  If all its events
had happened the outside stands as `t` leaves it. -/
def State.abandon (s t : State) (k : Nat) : State :=
  let es := t.trace.drop s.trace.length
  if es.length ≤ k then t.applyReset
  else { s.takeAnswers (es.take k) with trace := s.trace ++ es.take k }.applyReset

/-- `runCommand` with a reset after `k` external events of the operation (R201). -/
def State.runCommandThenReset (s : State) (b : Byte) (k : Nat) :
    Host.Outcome State Fault Refusal :=
  match s.runCommand b with
  | .next t => .next (s.abandon t k)
  | .fault r => .fault r
  | .refused r => .refused r

/-- `COMM.errcnt <- v` by the host, to the counter's width (R27, R190). -/
def State.hostErrcnt (s : State) (v : Nat) : State :=
  { s with comm := { s.comm with errcnt := v % 2 ^ s.cfg.errcntBits } }

/-- One host action on an idle core (R190, R193, R195). -/
def State.hostAct (s : State) : HostAction → Host.Outcome State Fault Refusal
  | .command b => s.runCommand b
  | .commandThenReset b k => s.runCommandThenReset b k
  | .writeDin v => .next { s with din := v }
  | .writeError v => .next { s with comm := { s.comm with error := v } }
  | .writeErrcnt v => .next (s.hostErrcnt v)
  | .clearWarning => .next { s with comm := { s.comm with warning := false } }
  | .reset => .next s.applyReset

/-- One step of the machine.  An idle core waits for the host (R202); a hung core takes nothing but
a reset (R186, R201): the host presents no command while `BUSY` = 1 and acts only on an idle core
(R193, R219).  A configuration outside R6, R7 is refused. -/
def State.hostStep (s : State) : Host.Outcome State Fault Refusal :=
  if s.cfg.wellFormed then
    match s.hostQueue with
    | [] => .next s
    | a :: rest =>
      if s.busy then
        if a = .reset then .next { s with hostQueue := rest }.applyReset else .next s
      else { s with hostQueue := rest }.hostAct a
  else .refused .illFormedConfiguration

/-- `s` with the command byte presented next: the host holds it ready and the core is idle. -/
def State.withCommand (s : State) (b : Byte) : State :=
  { s with hostQueue := .command b :: s.hostQueue, busy := false }

/-- An assembler line (R74). -/
inductive AsmLine where
  | crc6 (operand : BitVec 64)
  | vfy6 (operand : BitVec 64)
  | acq (a : Axis)
  | rd (c : Channel)
  | flt (c : Channel)
  | crc8 (operand : BitVec 64)
  | frame
  | cycle       -- the pseudo-instruction `CYCLE`
  | clrwarn     -- `.clrwarn`
  | reset       -- `.reset`
  | comment     -- a line starting with `;`
deriving DecidableEq, Repr

/-- The host presents the command of an instruction. -/
def HostAction.ofInstr (i : Instr) : HostAction := .command (encode i)

/-- What the host does for an assembler line (R74). -/
def AsmLine.actions : AsmLine → List HostAction
  | .crc6 v => [.writeDin v, HostAction.ofInstr .crc6]
  | .vfy6 v => [.writeDin v, HostAction.ofInstr .vfy6]
  | .acq .el => [HostAction.ofInstr .acqEl]
  | .acq .az => [HostAction.ofInstr .acqAz]
  | .rd .v => [HostAction.ofInstr .rdV]
  | .rd .i => [HostAction.ofInstr .rdI]
  | .flt .v => [HostAction.ofInstr .fltV]
  | .flt .i => [HostAction.ofInstr .fltI]
  | .crc8 v => [.writeDin v, HostAction.ofInstr .crc8]
  | .frame => [HostAction.ofInstr .frame]
  | .cycle => [HostAction.ofInstr .acqEl, HostAction.ofInstr .acqAz, HostAction.ofInstr .fltV,
      HostAction.ofInstr .fltI, HostAction.ofInstr .frame]
  | .clrwarn => [.clearWarning]
  | .reset => [.reset]
  | .comment => []

end Sys2Proof.Machine
end

