-- ==== Sys2Proof/Machine/Step.lean ====
section
/-! DEFINITION. The step, and where it takes its next command from.  There is no program counter and
no instruction memory (10_state.md R23, 20_memory.md R62): the host presents the commands. -/

namespace Sys2Proof.Machine

/-- One step: the host's next action (00_scope.md R11). -/
def step (s : State) : Host.Outcome State Fault Refusal := s.hostStep

/-- `s` with the one-byte command `w` as the host's next action. -/
def State.withFetchWord (s : State) (_nbits w : Nat) : State := s.withCommand (BitVec.ofNat 8 w)

end Sys2Proof.Machine
end

