-- ==== Sys2Proof/Safety.lean ====
section
/-! DEFINITION. The terms in which claims about TTC-CORE are made: the invariant of every operation
boundary, what it is for a conversion to be answered, what an acquisition takes from the link, the
construction of the two tables, the discipline of the select lines over a trace, and the example
configuration of 95_test_vectors.md. -/

namespace Sys2Proof.Machine

/-- The command that acquires axis `a` (R71). -/
def acqInstr : Axis → Instr
  | .el => .acqEl
  | .az => .acqAz

/-- The command that reads channel `c` (R71). -/
def rdInstr : Channel → Instr
  | .v => .rdV
  | .i => .rdI

/-- The command that filters channel `c` (R71). -/
def fltInstr : Channel → Instr
  | .v => .fltV
  | .i => .fltI

/-- The invariant of every operation boundary, and of a hung core. -/
structure State.Inv (s : State) : Prop where
  /-- The configuration is well formed (R6, R7). -/
  cfgOk : s.cfg.wellFormed = true
  /-- `0 <= FIDX[c] < FILTER_N` (R25). -/
  fidxOk : ∀ c, (s.chan c).fidx < s.cfg.filterN
  /-- The buffers keep their canonical form, every listed slot below `FILTER_N` (R51). -/
  bufferOk : ∀ c, Memory.wf s.cfg.filterN (s.chan c).fbuf = true
  /-- `SMOOTH[c]` is the truncated mean of the slots (R25). -/
  meanOk : ∀ c, (s.chan c).smooth.toNat = (s.chan c).fbuf.sum s.cfg.filterN / s.cfg.filterN
  /-- Both select lines are 1 (R29). -/
  selOk : ∀ a, s.sel a = true
  /-- `LNK_PHASE` is idle (R30; `ACQ` cannot hang, R122). -/
  lnkOk : s.lnkPhase = .idle
  /-- `BUSY` is 1 exactly where `AFE_PHASE` names the conversion that never completed (R30). -/
  busyOk : s.busy = true ↔ s.afePhase ≠ .idle
  /-- `COMM.errcnt` has `ERRCNT_BITS` bits (R27). -/
  errcntOk : s.comm.errcnt < 2 ^ s.cfg.errcntBits
  /-- An angle is at most 35998 hundredths of a degree (R78). -/
  angleOk : ∀ a, (s.angle a).angle.toNat ≤ 35998
  /-- `R_WORD[63:60]` and `R_WORD[3:2]` are zero (R80, R81). -/
  wordOk : s.rWord.extractLsb' 60 4 = 0 ∧ s.rWord.extractLsb' 2 2 = 0
  /-- `RAW[I]` is at most 65535 - `I_OFFSET` (R145). -/
  rawIOk : s.chanI.raw.toNat ≤ 65535 - s.cfg.iOffset.toNat

/-- How many conversions a read of channel `c` makes (R130). -/
def conversionsOf : Channel → Nat
  | .v => 1
  | .i => 2

/-- Every conversion of a read of channel `c` begun in `s` is answered (R143). -/
def State.conversionsAnswered (s : State) (c : Channel) : Prop :=
  ∀ k < conversionsOf c, (s.convAnswer k).isSome = true

/-- The byte that the `k`-th read from here yields. -/
def State.linkByte (s : State) (k : Nat) : Byte := (s.linkAnswer k).value

/-- Whether the `k`-th read from here times out. -/
def State.linkTimesOut (s : State) (k : Nat) : Bool := (s.linkAnswer k).timedOut

/-- The external events of one acquisition of axis `a` begun in `s`, in order (R110, R63). -/
def State.linkEvents (s : State) (a : Axis) : List Event :=
  [.selLow a,
   .send s.cfg.dummyByte, .read (s.linkByte 0) (s.linkTimesOut 0),
   .send s.cfg.dummyByte, .read (s.linkByte 1) (s.linkTimesOut 1),
   .send s.cfg.dummyByte, .read (s.linkByte 2) (s.linkTimesOut 2),
   .selHigh a]

/-- The advisory events of one acquisition of axis `a` begun in `s`, in order (R187); `ok` is the
outcome of its CRC check. -/
def State.linkAdvisories (s : State) (a : Axis) (ok : Bool) : List Advisory :=
  (if s.linkTimesOut 0 then [.linkTimeout a 0] else []) ++
  (if s.linkTimesOut 1 then [.linkTimeout a 1] else []) ++
  (if s.linkTimesOut 2 then [.linkTimeout a 2] else []) ++
  (if ok then [] else [.crc6Mismatch a])

/-- One step of the construction of `T6` (R52): `r <- trunc_6(r << 1) ^ (0x03 if r[5] = 1 else 0)`. -/
def tableStep6 (r : BitVec 6) : BitVec 6 :=
  (r <<< 1) ^^^ (if r.getLsbD 5 then 0x03 else 0)

/-- One step of the construction of `T8` (R53): `r <- trunc_8(r << 1) ^ (0x9B if r[7] = 1 else 0)`. -/
def tableStep8 (r : Byte) : Byte :=
  (r <<< 1) ^^^ (if r.getLsbD 7 then 0x9B else 0)

/-- The select lines over a trace (R29, R211): starting with the line `low` asserted (if any), which
line is asserted after the events, or `none` where an event breaks the discipline: a line is
asserted only when none is, released only when it is the asserted one, bytes move only while one is,
and everything else happens while none is. -/
def selectLines : Option Axis → List Event → Option (Option Axis)
  | low, [] => some low
  | low, e :: es =>
    match e, low with
    | .selLow a, none => selectLines (some a) es
    | .selHigh a, some b => if a = b then selectLines none es else none
    | .send _, some b => selectLines (some b) es
    | .read _ _, some b => selectLines (some b) es
    | .select _ _, none => selectLines none es
    | .convert _, none => selectLines none es
    | .sw _, none => selectLines none es
    | .tx _, none => selectLines none es
    | _, _ => none

/-- How many reads, conversions and switch samples are among events. -/
def countReads (es : List Event) : Nat :=
  es.countP (fun | .read _ _ => true | _ => false)
/-- Conversions that were answered. -/
def countConverts (es : List Event) : Nat :=
  es.countP (fun | .convert _ => true | _ => false)
/-- Samples of the switches. -/
def countSwitches (es : List Event) : Nat :=
  es.countP (fun | .sw _ => true | _ => false)

/-- The registers of a state with everything outside the core forgotten: what a reset sets. -/
def State.registers (s : State) : State :=
  { s with hostQueue := [], linkAnswers := [], convAnswers := [], switchAnswers := [],
           draws := 0, trace := [] }

/-- The converter answers that one read of channel `c` takes, from the pair of samples `x`: the
voltage read takes the first alone (R132), the current read both (R134). -/
def readAnswers (c : Channel) (x : Word × Word) : List ConvAnswer :=
  match c with
  | .v => [.sample x.1]
  | .i => [.sample x.1, .sample x.2]

/-- The raw result of a read of channel `c` from the pair of samples `x` (R132, R134). -/
def readResult (cfg : Config) (c : Channel) (x : Word × Word) : Word :=
  match c with
  | .v => scaleV cfg (truncCode cfg x.1)
  | .i =>
    let scaled := scaleI cfg (truncCode cfg x.2) (coeffOf cfg (railEst cfg (truncCode cfg x.1)))
    if cfg.iOffset < scaled then scaled - cfg.iOffset else 0

/-! ### Frames: the parts of the state that an operation leaves as they were -/

/-- Every AngleReading and the shift register are as before. -/
def State.SameAngles (s t : State) : Prop :=
  (∀ a, t.angle a = s.angle a) ∧ t.sr24 = s.sr24

/-- Every raw, smoothed and index register, every slot of both buffers, the ranging registers, the
converter configuration and `AFE_PHASE` are as before. -/
def State.SameAnalog (s t : State) : Prop :=
  (∀ c, (t.chan c).raw = (s.chan c).raw ∧ (t.chan c).smooth = (s.chan c).smooth ∧
    (t.chan c).fidx = (s.chan c).fidx) ∧
  (∀ c j, t.slot c j = s.slot c j) ∧
  t.rail = s.rail ∧ t.coeff = s.coeff ∧ t.adcMux = s.adcMux ∧ t.adcRef = s.adcRef ∧
  t.afePhase = s.afePhase

/-- CommunicationStatus is as before. -/
def State.SameComm (s t : State) : Prop :=
  t.comm.error = s.comm.error ∧ t.comm.errcnt = s.comm.errcnt ∧ t.comm.warning = s.comm.warning

/-- The select lines and `LNK_PHASE` are as before. -/
def State.SameLink (s t : State) : Prop :=
  (∀ a, t.sel a = s.sel a) ∧ t.lnkPhase = s.lnkPhase

/-- The configuration, the operand register and the host's coming actions are as before. -/
def State.SameHostSide (s t : State) : Prop :=
  t.cfg = s.cfg ∧ t.din = s.din ∧ t.hostQueue = s.hostQueue

/-- `CFG-EX`, the example configuration of 95_test_vectors.md section 1. -/
def cfgEx : Config where
  crc6Init    := 0
  dummyByte   := 0x00
  adcBits     := 12
  scaling     := .linear ⟨1000, 4096, 10240, 4096, 1, 10, 4096⟩
  iOffset     := 250
  filterN     := 4
  hexCase     := .lower
  errcntBits  := 8
  linkTimeout := 0

end Sys2Proof.Machine
end

