-- ==== Sys2Proof/Certificates/Slice0/Obligations.lean ====
section
/-! DEFINITION. The statements for the provers, each from a rule of spec/ (cited in its docstring)
or derived from named sections.  A statement that rests on a choice of the model says so. -/

open Sys2Proof Sys2Proof.Machine

/-! ### Encoding -/

/-- R71: the ten command bytes, each with its command, and no other byte is a command. -/
def Obligations.OpcodeMapDecodes : Prop :=
  decode 0x10 = .ok .crc6 ∧ decode 0x20 = .ok .vfy6 ∧ decode 0x30 = .ok .acqEl ∧
  decode 0x31 = .ok .acqAz ∧ decode 0x40 = .ok .rdV ∧ decode 0x41 = .ok .rdI ∧
  decode 0x50 = .ok .fltV ∧ decode 0x51 = .ok .fltI ∧ decode 0x60 = .ok .crc8 ∧
  decode 0x70 = .ok .frame ∧
  ∀ b i, decode b = .ok i →
    b ∈ ([0x10, 0x20, 0x30, 0x31, 0x40, 0x41, 0x50, 0x51, 0x60, 0x70] : List Byte)

/-- Decode and encode agree in both directions, for every instruction and every byte (30_encoding.md
section 1). -/
def Obligations.DecodeAndEncodeAgree : Prop :=
  (∀ i : Instr, i.wellFormed = true → decode (encode i) = .ok i) ∧
  (∀ b i, decode b = .ok i → encode i = b ∧ i.wellFormed = true)

/-- R73: a reserved byte presented to an idle core is refused by name. -/
def Obligations.ReservedBytesAreRefused : Prop :=
  ∀ (s : State) (b : Byte) (rest : List HostAction),
    s.cfg.wellFormed = true → s.busy = false → s.hostQueue = .command b :: rest →
    (b.toNat / 16 = 0 ∨ 8 ≤ b.toNat / 16 ∨ b.extractLsb' 1 3 ≠ 0 ∨
      b ∈ ([0x11, 0x21, 0x61, 0x71] : List Byte)) →
    ∃ why, step s = .refused (.reservedCommand b why)

/-! ### The step -/

/-- A step runs the decoded command: on an idle core whose host presents a byte that decodes to `i`,
the step is `exec i` on the state with that action taken from the queue (00_scope.md section 7).  The
second clause, that `withFetchWord` places such a byte, is about the host interface and the model's
choice (log entry 16). -/
def Obligations.StepRunsTheDecodedCommand : Prop :=
  (∀ (s : State) (b : Byte) (i : Instr) (rest : List HostAction),
    s.cfg.wellFormed = true → s.busy = false → s.hostQueue = .command b :: rest →
    decode b = .ok i → step s = exec i { s with hostQueue := rest }) ∧
  (∀ (s : State) (i : Instr), s.cfg.wellFormed = true →
    step (s.withFetchWord 8 (encode i).toNat) = exec i { s with busy := false })

/-- An idle core with nothing presented waits; a hung core takes nothing but a reset; and a reset, of an
idle core or of a hung one, takes every register to its reset value and reaches nothing outside: the
trace and the listed answers are kept (60_exceptions.md section 1, 70_reset_and_hazards.md section 1).
That the host's actions stand in a queue whose head alone is looked at, and that a hang is a state that
steps leave as it is, are the model's choices (log entries 3 and 6); so is that a reset clears the
record of advisory events, which `State.registers` keeps (log entry 14). -/
def Obligations.WaitingAndHungCoresStay : Prop :=
  (∀ s : State, s.cfg.wellFormed = true → s.hostQueue = [] → step s = .next s) ∧
  (∀ (s : State) (a : HostAction) (rest : List HostAction),
    s.cfg.wellFormed = true → s.busy = true → s.hostQueue = a :: rest → a ≠ .reset →
    step s = .next s) ∧
  (∀ (s : State) (rest : List HostAction),
    s.cfg.wellFormed = true → s.hostQueue = .reset :: rest →
    ∃ t, step s = .next t ∧ t.busy = false ∧ t.afePhase = .idle ∧
      t.registers = (State.resetOf s.cfg s.draws).registers ∧ t.trace = s.trace ∧
      t.linkAnswers = s.linkAnswers ∧ t.convAnswers = s.convAnswers ∧
      t.switchAnswers = s.switchAnswers ∧ t.hostQueue = rest)

/-- What the host may write on an idle core, and that each write changes that register alone
(60_exceptions.md sections 1 and 4).  That a write to `COMM.errcnt` keeps the low `ERRCNT_BITS` bits is
the model's choice (log entry 12). -/
def Obligations.HostWritesChangeOneRegister : Prop :=
  ∀ (s : State) (rest : List HostAction), s.cfg.wellFormed = true → s.busy = false →
    (∀ v, s.hostQueue = .writeDin v :: rest →
      step s = .next { s with hostQueue := rest, din := v }) ∧
    (∀ v, s.hostQueue = .writeError v :: rest →
      step s = .next { s with hostQueue := rest, comm := { s.comm with error := v } }) ∧
    (∀ v, s.hostQueue = .writeErrcnt v :: rest →
      step s = .next { s with hostQueue := rest,
                              comm := { s.comm with errcnt := v % 2 ^ s.cfg.errcntBits } }) ∧
    (s.hostQueue = .clearWarning :: rest →
      step s = .next { s with hostQueue := rest, comm := { s.comm with warning := false } })

/-! ### Reset -/

/-- The reset values of every register but `ADC_MUX` and `ADC_REF`, which hold any value
(70_reset_and_hazards.md section 1, log entry 10). -/
def Obligations.ResetValues : Prop :=
  State.reset = State.resetOf Config.machine 0 ∧
  ∀ (cfg : Config) (n : Nat), let s := State.resetOf cfg n
    (∀ c j, s.slot c j = 0) ∧
    s.comm.error = false ∧ s.comm.errcnt = 0 ∧ s.comm.warning = false ∧
    (∀ c, (s.chan c).fidx = 0 ∧ (s.chan c).smooth = 0 ∧ (s.chan c).raw = 0) ∧
    (∀ a, (s.angle a).angle = 0 ∧ (s.angle a).field = 0 ∧ (s.angle a).button = false ∧
      (s.angle a).track = false ∧ (s.angle a).crcValid = false) ∧
    s.rail = 0 ∧ s.coeff = 0 ∧
    s.din = 0 ∧ s.sr24 = 0 ∧ s.rPay = 0 ∧ s.rCrc = 0 ∧ s.fOk = false ∧ s.rWord = 0 ∧
    (∀ a, s.sel a = true) ∧
    s.busy = false ∧ s.lnkPhase = .idle ∧ s.afePhase = .idle

/-- The invariant holds at reset, for every well-formed configuration and for the machine's own. -/
def Obligations.ResetMeetsTheBoundaryConditions : Prop :=
  State.reset.Inv ∧ ∀ (cfg : Config) (n : Nat), cfg.wellFormed = true → (State.resetOf cfg n).Inv

/-- The first frame after reset with both switches reading 0 and lower-case digits
(70_reset_and_hazards.md section 1, 44_crc8_frame_checksum.md section 4). -/
def Obligations.FirstFrameAfterReset : Prop :=
  ∀ (cfg : Config) (n : Nat), cfg.hexCase = .lower →
    ∃ t, exec .frame { State.resetOf cfg n with switchAnswers := [0] } = .next t ∧
      t.rWord = 0 ∧ t.rCrc = 0xFF ∧
      t.trace = [.sw 0, .tx ([0x3C] ++ List.replicate 15 0x30 ++ [0x66, 0x66, 0x3E, 0x0D, 0x0A])]

/-! ### Invariants and whole-machine rules -/

/-- From every state that meets the invariant, reachable or not, every step gives a state that meets
it (10_state.md R25, R27, R29, R30; 30_encoding.md R78, R80; 42_adc_autorange_fsm.md R145). -/
def Obligations.StepKeepsTheBoundaryConditions : Prop :=
  ∀ s t : State, s.Inv → step s = .next t → t.Inv

/-- R51: what a read of a buffer returns, what a write replaces, that every slot is 0 at reset, and
that no step from a state that meets the invariant faults, since the index is always in range. -/
def Obligations.BufferAccessesNeverFault : Prop :=
  (∀ (n : Nat) (m : Memory) (i j : Nat) (v : Word), Memory.wf n m = true →
    (m.write i v).read j = if j = i then v else m.read j) ∧
  (∀ (cfg : Config) (n : Nat) (c : Channel) (j : Nat), (State.resetOf cfg n).slot c j = 0) ∧
  (∀ (s : State) (r : Fault), s.Inv → step s ≠ .fault r)

/-- No command changes the configuration, the operand register or what the host will do, and every
step, a reset among them, only adds to the record of external events (20_memory.md section 5,
30_encoding.md section 1, 70_reset_and_hazards.md section 1).  That the configuration stands in the state
and no step changes it, and that the record is a field which a reset keeps, are the model's choices (log
entries 1 and 14). -/
def Obligations.CommandsKeepOperandsAndEvents : Prop :=
  (∀ (i : Instr) (s t : State), exec i s = .next t →
    s.SameHostSide t ∧ ∃ es, t.trace = s.trace ++ es) ∧
  (∀ s t : State, step s = .next t → t.cfg = s.cfg ∧ ∃ es, t.trace = s.trace ++ es)

/-- No command clears `COMM.warning` or writes `COMM.error` or `COMM.errcnt`; a command that sets
the warning is an acquisition one of whose three reads timed out (10_state.md section 4,
60_exceptions.md section 1). -/
def Obligations.CommandsOnlySetTheWarning : Prop :=
  ∀ (i : Instr) (s t : State), exec i s = .next t →
    t.comm.error = s.comm.error ∧ t.comm.errcnt = s.comm.errcnt ∧
    (s.comm.warning = true → t.comm.warning = true) ∧
    (t.comm.warning ≠ s.comm.warning →
      ∃ a k, i = acqInstr a ∧ k < 3 ∧ s.linkTimesOut k = true)

/-- Which commands write which register, for every register but `BUSY` (the tables of 10_state.md
sections 2 to 4, 70_reset_and_hazards.md section 3): a register that differs after a command was written
by one of those the tables name. -/
def Obligations.OnlyTheNamedCommandsWrite : Prop :=
  ∀ (i : Instr) (s t : State), exec i s = .next t →
    (∀ a, t.angle a ≠ s.angle a → i = acqInstr a) ∧
    (∀ c, (t.chan c).raw ≠ (s.chan c).raw → i = rdInstr c ∨ i = fltInstr c) ∧
    (∀ c, (t.chan c).smooth ≠ (s.chan c).smooth ∨ (t.chan c).fidx ≠ (s.chan c).fidx ∨
      (∃ j, t.slot c j ≠ s.slot c j) → i = fltInstr c) ∧
    (t.rail ≠ s.rail ∨ t.coeff ≠ s.coeff → i = .rdI ∨ i = .fltI) ∧
    (t.adcMux ≠ s.adcMux ∨ t.adcRef ≠ s.adcRef → ∃ c, i = rdInstr c ∨ i = fltInstr c) ∧
    (t.sr24 ≠ s.sr24 → ∃ a, i = acqInstr a) ∧
    (t.rPay ≠ s.rPay ∨ t.fOk ≠ s.fOk → i = .vfy6 ∨ ∃ a, i = acqInstr a) ∧
    (t.rCrc ≠ s.rCrc →
      i = .crc6 ∨ i = .vfy6 ∨ i = .crc8 ∨ i = .frame ∨ ∃ a, i = acqInstr a) ∧
    (t.rWord ≠ s.rWord → i = .frame) ∧
    (∀ a, t.sel a ≠ s.sel a → i = acqInstr a) ∧
    (t.lnkPhase ≠ s.lnkPhase ∨ t.comm ≠ s.comm → ∃ a, i = acqInstr a) ∧
    (t.afePhase ≠ s.afePhase → ∃ c, i = rdInstr c ∨ i = fltInstr c) ∧
    t.din = s.din

/-- Over the record of events, at most one select line is asserted at a time, bytes move only while
one is, and every command leaves both released (10_state.md section 4, 70_reset_and_hazards.md
section 3). -/
def Obligations.SelectLinesNeverOverlap : Prop :=
  ∀ (i : Instr) (s t : State), exec i s = .next t →
    selectLines none s.trace = some none → selectLines none t.trace = some none

/-- Every command but `RD c` and `FLT c` completes; `RD c` and `FLT c` complete exactly when each of
their conversions is answered (70_reset_and_hazards.md section 4). -/
def Obligations.OnlyConversionsCanHang : Prop :=
  ∀ (i : Instr) (s : State), s.Inv → ∃ t, exec i s = .next t ∧
    (t.busy = true ↔ ∃ c, (i = rdInstr c ∨ i = fltInstr c) ∧ ¬ s.conversionsAnswered c)

/-- R143: a conversion that is not answered leaves `BUSY` at 1 and `AFE_PHASE` at the conversion it
was in, the channel as it was, and no later command is ever taken. -/
def Obligations.UnansweredConversionHangsForEver : Prop :=
  ∀ (c : Channel) (i : Instr) (s : State),
    (i = rdInstr c ∨ i = fltInstr c) → (s.chan c).fidx < s.cfg.filterN →
    ¬ s.conversionsAnswered c →
    ∃ t, exec i s = .next t ∧ t.busy = true ∧ t.chan c = s.chan c ∧
      t.afePhase = (match c with
        | .v => .vConv
        | .i => if s.convAnswer 0 = none then .railConv else .curConv) ∧
      (s.cfg.wellFormed = true → s.hostQueue.head? ≠ some .reset →
        ∀ k, Sys2Proof.core.run k t = .next t)

/-- A reset applied while a command runs (70_reset_and_hazards.md section 1): the events already
emitted stay emitted and no later one happens, the answers they took stay taken, and all registers
take the reset values.  A reset that comes once the command has caused all its events and hangs finds
one more conversion started, whose answer, that there is none, is taken too.  That the released line is
no event of its own and that an answer is taken with its event are the model's choices (log entry 9), and
so is that a reset clears the record of advisory events, which `State.registers` keeps (log entry 14). -/
def Obligations.ResetDuringACommandAbandonsIt : Prop :=
  ∀ (s : State) (b : Byte) (i : Instr) (k : Nat) (rest : List HostAction),
    s.Inv → s.busy = false → s.hostQueue = .commandThenReset b k :: rest → decode b = .ok i →
    ∃ t u es n, exec i { s with hostQueue := rest } = .next t ∧ t.trace = s.trace ++ es ∧
      step s = .next u ∧ u.trace = s.trace ++ es.take k ∧
      u.registers = (State.resetOf s.cfg n).registers ∧ u.hostQueue = rest ∧
      u.linkAnswers = s.linkAnswers.drop (countReads (es.take k)) ∧
      u.switchAnswers = s.switchAnswers.drop (countSwitches (es.take k)) ∧
      (k < es.length ∨ t.busy = false →
        u.convAnswers = s.convAnswers.drop (countConverts (es.take k))) ∧
      (es.length ≤ k → t.busy = true →
        u.convAnswers = s.convAnswers.drop (countConverts es + 1))

/-! ### CRC-6 -/

/-- R52: the table `T6` is its construction: six steps from `i`. -/
def Obligations.TableT6IsSixSteps : Prop :=
  ∀ i : BitVec 6, readT6 i =
    tableStep6 (tableStep6 (tableStep6 (tableStep6 (tableStep6 (tableStep6 i)))))

/-- R102: `CRC6`. -/
def Obligations.Crc6Command : Prop :=
  decode 0x10 = .ok .crc6 ∧
  (∀ s : State, exec .crc6 s = .next { s with
    rCrc := (crc6 s.cfg.crc6Init (s.din.extractLsb' 0 18)).zeroExtend 8, busy := false }) ∧
  crc6 0 0 = 0 ∧ crc6 0 0x3FFFF = 0x0E ∧ crc6 0 0x10000 = 0x35

/-- The table form and the serial form of the CRC-6 agree on every input, for every starting value
(40_crc6_validator.md section 1). -/
def Obligations.Crc6TableFormIsSerialForm : Prop :=
  ∀ (init : BitVec 6) (p : BitVec 18), crc6 init p = crc6Serial init p

/-- From starting value 0 the CRC-6 is linear; from any other it is affine
(40_crc6_validator.md sections 1 and 3). -/
def Obligations.Crc6IsLinear : Prop :=
  (∀ p q : BitVec 18, crc6 0 (p ^^^ q) = crc6 0 p ^^^ crc6 0 q) ∧
  (∀ (init : BitVec 6) (p : BitVec 18), crc6 init p = crc6 init 0 ^^^ crc6 0 p)

/-- R103: `verify_and_strip` returns the payload whether or not the check succeeds. -/
def Obligations.VerifyAlwaysReturnsThePayload : Prop :=
  ∀ (init : BitVec 6) (f : BitVec 24),
    (verifyAndStrip init f).payload = f.extractLsb' 6 18 ∧
    ((verifyAndStrip init f).ok = true ↔ crc6 init (f.extractLsb' 6 18) = f.extractLsb' 0 6) ∧
    (verifyAndStrip init f).crc = crc6 init (f.extractLsb' 6 18)

/-- R104: `VFY6`.  The worked examples are for `CRC6_INIT` 0. -/
def Obligations.Vfy6Command : Prop :=
  decode 0x20 = .ok .vfy6 ∧
  (∀ s : State, exec .vfy6 s = .next { s with
    rPay := s.din.extractLsb' 6 18
    rCrc := (crc6 s.cfg.crc6Init (s.din.extractLsb' 6 18)).zeroExtend 8
    fOk := decide (crc6 s.cfg.crc6Init (s.din.extractLsb' 6 18) = s.din.extractLsb' 0 6)
    busy := false }) ∧
  (verifyAndStrip 0 0x000000).ok = true ∧ (verifyAndStrip 0 0xFFFFFF).ok = false ∧
  verifyAndStrip 0 0x400035 = ⟨0x10000, true, 0x35⟩ ∧
  verifyAndStrip 0 0x400034 = ⟨0x10000, false, 0x35⟩

/-- R105: a frame built from a payload and its CRC verifies, and the same frame with any one bit
flipped does not, for every starting value. -/
def Obligations.OneFlippedBitIsDetected : Prop :=
  ∀ (init : BitVec 6) (p : BitVec 18),
    (verifyAndStrip init (p ++ crc6 init p : BitVec 24)).ok = true ∧
    ∀ k < 24, (verifyAndStrip init ((p ++ crc6 init p : BitVec 24) ^^^ (1#24 <<< k))).ok = false

/-- A frame verifies exactly when the serial register run over all its 24 bits ends at 0
(40_crc6_validator.md section 3). -/
def Obligations.FrameVerifiesIffResidueIsZero : Prop :=
  ∀ (init : BitVec 6) (f : BitVec 24),
    (verifyAndStrip init f).ok = true ↔ crc6Bits f 24 init = 0

/-! ### CRC-8 -/

/-- R53: the table `T8` is its construction: eight steps from `i`. -/
def Obligations.TableT8IsEightSteps : Prop :=
  ∀ i : Byte, readT8 i = tableStep8 (tableStep8 (tableStep8 (tableStep8
    (tableStep8 (tableStep8 (tableStep8 (tableStep8 i)))))))

/-- R161: `nbytes(data)` is the smallest number of bytes that holds the value, the position of the
highest non-zero byte plus one. -/
def Obligations.NbytesIsTheLeastLength : Prop :=
  (∀ d : BitVec 64, d.toNat < 2 ^ (8 * nbytes d) ∧
    (∀ m, d.toNat < 2 ^ (8 * m) → nbytes d ≤ m) ∧
    (∀ j, j < 8 → nbytes d ≤ j → byteAt d j = 0) ∧
    (d ≠ 0 → 1 ≤ nbytes d ∧ nbytes d ≤ 8 ∧ byteAt d (nbytes d - 1) ≠ 0)) ∧
  nbytes 0 = 0 ∧ nbytes 1 = 1 ∧ nbytes 0xFF = 1 ∧ nbytes 0x100 = 2 ∧
  nbytes 0x0100000000000000 = 8

/-- R163: `CRC8`, with its worked example. -/
def Obligations.Crc8Command : Prop :=
  decode 0x60 = .ok .crc8 ∧
  (∀ s : State, exec .crc8 s = .next { s with rCrc := crc8 s.din, busy := false }) ∧
  crc8 0x0232800000640322 = 0xF6

/-- The table form and the serial form of the CRC-8 agree on every operand
(44_crc8_frame_checksum.md section 1). -/
def Obligations.Crc8TableFormIsSerialForm : Prop :=
  ∀ d : BitVec 64, crc8 d = crc8Serial d

/-- `CRC6`, `VFY6` and `CRC8` leave alone every register but the results their rules name, every
slot of memory, and the outside (40_crc6_validator.md, 44_crc8_frame_checksum.md section 1). -/
def Obligations.ChecksumCommandsFrame : Prop :=
  ∀ (i : Instr) (s t : State), i = .crc6 ∨ i = .vfy6 ∨ i = .crc8 → exec i s = .next t →
    s.SameAngles t ∧ s.SameAnalog t ∧ s.SameComm t ∧ s.SameLink t ∧ s.SameHostSide t ∧
    t.rWord = s.rWord ∧ t.linkAnswers = s.linkAnswers ∧ t.convAnswers = s.convAnswers ∧
    t.switchAnswers = s.switchAnswers ∧ t.trace = s.trace ∧ t.raised = s.raised ∧
    (i ≠ .vfy6 → t.rPay = s.rPay ∧ t.fOk = s.fOk)

/-! ### The angle link -/

/-- R110: `acquire(a)`, everything it writes and every external event in order, whatever the link
answers; `ACQ EL` and `ACQ AZ` are it. -/
def Obligations.AcquireFollowsTheProtocol : Prop :=
  ∀ (a : Axis) (s : State),
    let f : BitVec 24 := s.linkByte 0 ++ s.linkByte 1 ++ s.linkByte 2
    let p : BitVec 18 := f.extractLsb' 6 18
    let c := crc6 s.cfg.crc6Init p
    let ok := decide (c = f.extractLsb' 0 6)
    exec (acqInstr a) s = .next { s.setAngle a
        { angle := BitVec.ofNat 16 (((p.extractLsb' 4 14).toNat * 36000 + 8192) / 16384)
          field := p.extractLsb' 2 2
          button := p.getLsbD 1
          track := p.getLsbD 0
          crcValid := ok } with
      sr24 := f
      rPay := p
      rCrc := c.zeroExtend 8
      fOk := ok
      comm := { s.comm with
        warning := s.comm.warning || s.linkTimesOut 0 || s.linkTimesOut 1 || s.linkTimesOut 2 }
      selEl := s.selEl || decide (a = .el)
      selAz := s.selAz || decide (a = .az)
      lnkPhase := .idle
      busy := false
      linkAnswers := s.linkAnswers.drop 3
      draws := s.draws + 3
      trace := s.trace ++
        [.selLow a,
         .send s.cfg.dummyByte, .read (s.linkByte 0) (s.linkTimesOut 0),
         .send s.cfg.dummyByte, .read (s.linkByte 1) (s.linkTimesOut 1),
         .send s.cfg.dummyByte, .read (s.linkByte 2) (s.linkTimesOut 2),
         .selHigh a]
      raised := s.raised ++
        ((if s.linkTimesOut 0 then [.linkTimeout a 0] else []) ++
         (if s.linkTimesOut 1 then [.linkTimeout a 1] else []) ++
         (if s.linkTimesOut 2 then [.linkTimeout a 2] else []) ++
         (if ok then [] else [.crc6Mismatch a])) }

/-- The worked examples of `ACQ EL` and `ACQ AZ` (41_angle_frame_shifter.md section 1), for
`CRC6_INIT` 0. -/
def Obligations.AcquireWorkedExamples : Prop :=
  ∀ s : State, s.cfg.crc6Init = 0 →
    (s.linkAnswers = [⟨0x40, false⟩, ⟨0x00, false⟩, ⟨0x35, false⟩] →
      ∃ t, exec .acqEl s = .next t ∧ t.sr24 = 0x400035 ∧ t.rPay = 0x10000 ∧ t.rCrc = 0x35 ∧
        t.fOk = true ∧ t.angleEl = ⟨9000, 0, false, false, true⟩ ∧ t.angleAz = s.angleAz ∧
        t.comm = s.comm) ∧
    (s.linkAnswers = [⟨0xFF, false⟩, ⟨0xFE, false⟩, ⟨0xC2, false⟩] →
      ∃ t, exec .acqAz s = .next t ∧ t.sr24 = 0xFFFEC2 ∧ t.rPay = 0x3FFFB ∧ t.rCrc = 0x02 ∧
        t.fOk = true ∧ t.angleAz = ⟨35998, 2, true, true, true⟩ ∧ t.angleEl = s.angleEl ∧
        t.comm = s.comm)

/-- `ACQ a` leaves alone the other axis, both channels, every slot of memory, the converter, the
packed word, the error flag and counter, and the other select line (41_angle_frame_shifter.md). -/
def Obligations.AcquireFrame : Prop :=
  ∀ (a : Axis) (s t : State), exec (acqInstr a) s = .next t →
    (∀ b, b ≠ a → t.angle b = s.angle b ∧ t.sel b = s.sel b) ∧
    s.SameAnalog t ∧ s.SameHostSide t ∧ t.rWord = s.rWord ∧
    t.comm.error = s.comm.error ∧ t.comm.errcnt = s.comm.errcnt ∧
    t.convAnswers = s.convAnswers ∧ t.switchAnswers = s.switchAnswers

/-- A timed-out read changes nothing but the warning, the record and the advisory events: with the
same bytes, timed out or not, the reading and the results are the same
(41_angle_frame_shifter.md sections 2 and 3). -/
def Obligations.TimeoutsDoNotChangeTheReading : Prop :=
  ∀ (a : Axis) (s : State) (xs ys : List LinkAnswer),
    3 ≤ xs.length → xs.map LinkAnswer.value = ys.map LinkAnswer.value →
    ∃ t u, exec (acqInstr a) { s with linkAnswers := xs } = .next t ∧
      exec (acqInstr a) { s with linkAnswers := ys } = .next u ∧
      (∀ b, t.angle b = u.angle b) ∧ t.sr24 = u.sr24 ∧ t.rPay = u.rPay ∧ t.rCrc = u.rCrc ∧
      t.fOk = u.fOk ∧ (∀ b, t.sel b = u.sel b) ∧ t.lnkPhase = u.lnkPhase ∧ t.busy = u.busy

/-- R187: within one acquisition the advisory events are raised in order, timeouts by byte and then
the mismatch, both flags are written and neither masks the other; no acquisition hangs; and no other
command raises an event. -/
def Obligations.AdvisoryEventsInOrder : Prop :=
  (∀ (a : Axis) (s : State), ∃ t ok, exec (acqInstr a) s = .next t ∧
    t.raised = s.raised ++
      (if s.linkTimesOut 0 then [.linkTimeout a 0] else []) ++
      (if s.linkTimesOut 1 then [.linkTimeout a 1] else []) ++
      (if s.linkTimesOut 2 then [.linkTimeout a 2] else []) ++
      (if ok then [] else [.crc6Mismatch a]) ∧
    t.fOk = ok ∧ (t.angle a).crcValid = ok ∧
    (ok = true ↔ crc6 s.cfg.crc6Init (t.sr24.extractLsb' 6 18) = t.sr24.extractLsb' 0 6) ∧
    (s.linkTimesOut 0 ∨ s.linkTimesOut 1 ∨ s.linkTimesOut 2 → t.comm.warning = true) ∧
    t.busy = false) ∧
  (∀ (i : Instr) (s t : State), (∀ a, i ≠ acqInstr a) → exec i s = .next t →
    t.raised = s.raised)

/-- R118: `angle_scale` is the nearest hundredth of a degree, a tie going up, and ties happen exactly
for the 32 codes 256 + 512 j. -/
def Obligations.AngleScaleIsNearest : Prop :=
  ∀ raw : BitVec 14,
    (angleScale raw).toNat = (raw.toNat * 36000 + 8192) / 16384 ∧
    (angleScale raw).toNat = (raw.toNat * 1125 + 256) >>> 9 ∧
    ((raw.toNat * 36000) % 16384 = 8192 ↔ ∃ j < 32, raw.toNat = 256 + 512 * j) ∧
    raw.toNat * 1125 + 256 ≤ 16383 * 1125 + 256 ∧
    2 ^ 24 ≤ 16383 * 1125 + 256 ∧ 16383 * 1125 + 256 = 18431131 ∧ 18431131 < 2 ^ 25

/-- `angle_scale` is strictly increasing in steps of 2 or 3, ends at 35998, meets the four values of
41_angle_frame_shifter.md section 2, and errs by at most half a hundredth. -/
def Obligations.AngleScaleIsStrictlyIncreasing : Prop :=
  (∀ a b : BitVec 14, a.toNat + 1 = b.toNat →
    (angleScale a).toNat + 2 ≤ (angleScale b).toNat ∧
    (angleScale b).toNat ≤ (angleScale a).toNat + 3) ∧
  (∀ a : BitVec 14, (angleScale a).toNat ≤ 35998 ∧
    (angleScale a).toNat * 16384 ≤ a.toNat * 36000 + 8192 ∧
    a.toNat * 36000 ≤ (angleScale a).toNat * 16384 + 8192) ∧
  angleScale 0 = 0 ∧ angleScale 4096 = 9000 ∧ angleScale 8192 = 18000 ∧ angleScale 16383 = 35998

/-! ### The analog front end -/

/-- R133: `RD V`, answered and unanswered, with its corner cases and worked example. -/
def Obligations.ReadVoltageCommand : Prop :=
  decode 0x40 = .ok .rdV ∧
  (∀ (s : State) (code : Word), s.convAnswer 0 = some code →
    exec .rdV s = .next { s with
      adcMux := 0, adcRef := 0, afePhase := .idle, busy := false
      chanV := { s.chanV with raw := scaleV s.cfg code }
      convAnswers := s.convAnswers.tail, draws := s.draws + 1
      trace := s.trace ++ [.select 0 0, .convert code] }) ∧
  (∀ s : State, s.convAnswer 0 = none →
    exec .rdV s = .next { s with
      adcMux := 0, adcRef := 0, afePhase := .vConv, busy := true
      convAnswers := s.convAnswers.tail, draws := s.draws + 1
      trace := s.trace ++ [.select 0 0] }) ∧
  (∀ (c : Config) (k : LinearScaling), c.scaling = .linear k → scaleV c 0 = 0) ∧
  (∀ (c : Config) (k : LinearScaling) (code : Word), c.scaling = .linear k →
    c.wellFormed = true → code.toNat ≤ c.maxCode →
    (scaleV c code).toNat ≤ (scaleV c (BitVec.ofNat 16 c.maxCode)).toNat) ∧
  scaleV cfgEx 2048 = 500

/-- R135: `RD I`, with both conversions answered, with the first unanswered and with the second
unanswered, with its corner cases and worked example. -/
def Obligations.ReadCurrentCommand : Prop :=
  decode 0x41 = .ok .rdI ∧
  (∀ (s : State) (codeS codeI : Word), s.convAnswer 0 = some codeS → s.convAnswer 1 = some codeI →
    let rail := railEst s.cfg codeS
    let coeff := coeffOf s.cfg rail
    let scaled := scaleI s.cfg codeI coeff
    exec .rdI s = .next { s with
      adcMux := 1, adcRef := 2, afePhase := .idle, busy := false, rail := rail, coeff := coeff
      chanI := { s.chanI with
        raw := if scaled > s.cfg.iOffset then scaled - s.cfg.iOffset else 0 }
      convAnswers := s.convAnswers.drop 2, draws := s.draws + 2
      trace := s.trace ++ [.select 2 1, .convert codeS, .select 1 2, .convert codeI] }) ∧
  (∀ s : State, s.convAnswer 0 = none →
    exec .rdI s = .next { s with
      adcMux := 2, adcRef := 1, afePhase := .railConv, busy := true
      convAnswers := s.convAnswers.tail, draws := s.draws + 1
      trace := s.trace ++ [.select 2 1] }) ∧
  (∀ (s : State) (codeS : Word), s.convAnswer 0 = some codeS → s.convAnswer 1 = none →
    exec .rdI s = .next { s with
      adcMux := 1, adcRef := 2, afePhase := .curConv, busy := true
      rail := railEst s.cfg codeS, coeff := coeffOf s.cfg (railEst s.cfg codeS)
      convAnswers := s.convAnswers.drop 2, draws := s.draws + 2
      trace := s.trace ++ [.select 2 1, .convert codeS, .select 1 2] }) ∧
  (∀ (c : Config) (k : LinearScaling) (codeI : Word), c.scaling = .linear k →
    railEst c 0 = 0 ∧ coeffOf c 0 = 0 ∧ scaleI c codeI 0 = 0) ∧
  railEst cfgEx 2000 = 5000 ∧ coeffOf cfgEx 5000 = 500 ∧ scaleI cfgEx 3000 500 = 366 ∧
  readResult cfgEx .i (2000, 3000) = 116

/-- `RD c` leaves alone both buffers with every slot, both indices, both smoothed values, the other
channel's raw result, the readings, the flags, the results and the link
(42_adc_autorange_fsm.md sections 2 and 3). -/
def Obligations.ReadFrame : Prop :=
  ∀ (c : Channel) (s t : State), exec (rdInstr c) s = .next t →
    (∀ d, d ≠ c → t.chan d = s.chan d) ∧
    (∀ d, (t.chan d).smooth = (s.chan d).smooth ∧ (t.chan d).fidx = (s.chan d).fidx) ∧
    (∀ d j, t.slot d j = s.slot d j) ∧
    (c = .v → t.rail = s.rail ∧ t.coeff = s.coeff) ∧
    s.SameAngles t ∧ s.SameComm t ∧ s.SameLink t ∧ s.SameHostSide t ∧
    t.rPay = s.rPay ∧ t.rCrc = s.rCrc ∧ t.fOk = s.fOk ∧ t.rWord = s.rWord ∧
    t.linkAnswers = s.linkAnswers ∧ t.switchAnswers = s.switchAnswers ∧ t.raised = s.raised

/-- R141: on a well-formed configuration with the default forms every product is below 2^32 and the
result of each function is the exact truncated quotient, for every code and every rail and
coefficient the earlier functions can return. -/
def Obligations.LinearFormsNeverOverflow : Prop :=
  ∀ (c : Config) (k : LinearScaling) (code codeI : Word), c.wellFormed = true →
    c.scaling = .linear k → code.toNat < 2 ^ c.adcBits → codeI.toNat < 2 ^ c.adcBits →
    let rail := railEst c code
    let coeff := coeffOf c rail
    code.toNat * k.voltNum < 2 ^ 32 ∧
      (scaleV c code).toNat = code.toNat * k.voltNum / k.voltDen ∧
    code.toNat * k.railNum < 2 ^ 32 ∧ rail.toNat = code.toNat * k.railNum / k.railDen ∧
    rail.toNat * k.coefNum < 2 ^ 32 ∧ coeff.toNat = rail.toNat * k.coefNum / k.coefDen ∧
    codeI.toNat * coeff.toNat < 2 ^ 32 ∧
      (scaleI c codeI coeff).toNat = codeI.toNat * coeff.toNat / k.curDen

/-- Every code the converter's answer brings has `ADC_BITS` bits (30_encoding.md section 4,
42_adc_autorange_fsm.md section 5, log entry 15), so that the offset is removed from the exact scaled
current with a clamp at zero, never with a wrap (42_adc_autorange_fsm.md section 4). -/
def Obligations.OffsetClampsAtZero : Prop :=
  (∀ (s : State) (k : Nat) (code : Word), s.convAnswer k = some code →
    code.toNat < 2 ^ s.cfg.adcBits) ∧
  ∀ (s : State) (codeS codeI : Word), s.convAnswer 0 = some codeS → s.convAnswer 1 = some codeI →
    ∃ t, exec .rdI s = .next t ∧
      t.chanI.raw.toNat =
        (scaleI s.cfg codeI (coeffOf s.cfg (railEst s.cfg codeS))).toNat - s.cfg.iOffset.toNat ∧
      (∀ k : LinearScaling, s.cfg.scaling = .linear k → s.cfg.wellFormed = true →
        t.chanI.raw.toNat = codeI.toNat * t.coeff.toNat / k.curDen - s.cfg.iOffset.toNat)

/-- With the default forms the raw results do not decrease in their code, for every code of `ADC_BITS`
bits, which is every code an answer brings (42_adc_autorange_fsm.md section 5; see
`OffsetClampsAtZero`). -/
def Obligations.ReadingsDoNotDecrease : Prop :=
  ∀ (c : Config) (k : LinearScaling) (x y z : Word), c.wellFormed = true → c.scaling = .linear k →
    x.toNat ≤ y.toNat → y.toNat ≤ c.maxCode →
    (readResult c .v (x, z)).toNat ≤ (readResult c .v (y, z)).toNat ∧
    (readResult c .i (z, x)).toNat ≤ (readResult c .i (z, y)).toNat

/-- Two reads with the same converter answers give the same results, whatever ran between them: the raw
result, the converter's selection and, for the current channel, the rail estimate and the coefficient.
The machines may differ in everything but the configuration (42_adc_autorange_fsm.md sections 1
and 5). -/
def Obligations.ReadDependsOnAnswersAlone : Prop :=
  ∀ (c : Channel) (s u : State), s.cfg = u.cfg → s.conversionsAnswered c →
    (∀ k < conversionsOf c, s.convAnswer k = u.convAnswer k) →
    ∃ t v, exec (rdInstr c) s = .next t ∧ exec (rdInstr c) u = .next v ∧
      (t.chan c).raw = (v.chan c).raw ∧ t.adcMux = v.adcMux ∧ t.adcRef = v.adcRef ∧
      (c = .i → t.rail = v.rail ∧ t.coeff = v.coeff)

/-! ### The filter -/

/-- R150: `filter_step(c)`.  After an answered read it is the read, and then one slot written at the
old index with the new raw result, the index advanced modulo `FILTER_N`, and the smoothed value the
truncated mean of all the slots, never above the largest; nothing else.  A read that hangs is all that
happens. -/
def Obligations.FilterStepAveragesTheBuffer : Prop :=
  ∀ (c : Channel) (s : State), (s.chan c).fidx < s.cfg.filterN →
    Memory.wf s.cfg.filterN (s.chan c).fbuf = true →
    (s.conversionsAnswered c →
      ∃ u t, exec (rdInstr c) s = .next u ∧ exec (fltInstr c) s = .next t ∧
        t = u.setChan c (t.chan c) ∧ (t.chan c).raw = (u.chan c).raw ∧
        (∀ j, t.slot c j = if j = (s.chan c).fidx then (u.chan c).raw else s.slot c j) ∧
        (t.chan c).fidx = ((s.chan c).fidx + 1) % s.cfg.filterN ∧
        (t.chan c).smooth.toNat =
          (∑ j ∈ Finset.range s.cfg.filterN, (t.slot c j).toNat) / s.cfg.filterN ∧
        (∃ j < s.cfg.filterN, (t.chan c).smooth.toNat ≤ (t.slot c j).toNat) ∧
        t.busy = false) ∧
    (¬ s.conversionsAnswered c → exec (fltInstr c) s = exec (rdInstr c) s)

/-- The worked examples of `FLT V` and `FLT I` (43_moving_average_filter.md), after reset with
`CFG-EX`. -/
def Obligations.FilterWorkedExamples : Prop :=
  decode 0x50 = .ok .fltV ∧ decode 0x51 = .ok .fltI ∧
  ∀ n : Nat,
    (∃ t, exec .fltV { State.resetOf cfgEx n with convAnswers := [.sample 2048] } = .next t ∧
      t.chanV.raw = 500 ∧ t.slot .v 0 = 500 ∧ t.slot .v 1 = 0 ∧ t.slot .v 2 = 0 ∧
      t.slot .v 3 = 0 ∧ t.chanV.fidx = 1 ∧ t.chanV.smooth = 125) ∧
    (∃ t, exec .fltI { State.resetOf cfgEx n with convAnswers := [.sample 2000, .sample 3000] } =
        .next t ∧
      t.chanI.raw = 116 ∧ t.slot .i 0 = 116 ∧ t.slot .i 1 = 0 ∧ t.slot .i 2 = 0 ∧
      t.slot .i 3 = 0 ∧ t.chanI.fidx = 1 ∧ t.chanI.smooth = 29)

/-- `FLT c` leaves alone the other channel, every slot of memory but the one at the old index of its
own buffer, the readings, the flags, the results and the link; and if its read hangs, its own
buffer, index, raw and smoothed value too (43_moving_average_filter.md). -/
def Obligations.FilterFrame : Prop :=
  ∀ (c : Channel) (s t : State), exec (fltInstr c) s = .next t →
    (∀ d, d ≠ c → t.chan d = s.chan d) ∧
    (∀ d j, d ≠ c ∨ j ≠ (s.chan c).fidx → t.slot d j = s.slot d j) ∧
    (t.busy = true → t.chan c = s.chan c) ∧
    (c = .v → t.rail = s.rail ∧ t.coeff = s.coeff) ∧
    s.SameAngles t ∧ s.SameComm t ∧ s.SameLink t ∧ s.SameHostSide t ∧
    t.rPay = s.rPay ∧ t.rCrc = s.rCrc ∧ t.fOk = s.fOk ∧ t.rWord = s.rWord ∧
    t.linkAnswers = s.linkAnswers ∧ t.switchAnswers = s.switchAnswers ∧ t.raised = s.raised

/-- Where the filter stops: exactly on an index that names no slot, which no state that meets the
invariant has; the stop is the model's (log entry 11). -/
def Obligations.FilterStopsOnlyOutsideTheBuffer : Prop :=
  ∀ (c : Channel) (s : State),
    (s.cfg.filterN ≤ (s.chan c).fidx →
      exec (fltInstr c) s = .fault (.slotOutOfRange c (s.chan c).fidx)) ∧
    ((s.chan c).fidx < s.cfg.filterN → ∃ t, exec (fltInstr c) s = .next t)

/-- A running sum, the new sample added and the overwritten one subtracted, is the sum over the
buffer (43_moving_average_filter.md). -/
def Obligations.RunningSumIsTheSum : Prop :=
  ∀ (n : Nat) (m : Memory) (i : Nat) (v : Word), Memory.wf n m = true → i < n →
    (m.write i v).sum n + (m.read i).toNat = m.sum n + v.toNat

/-- R154: after `k` calls from reset, `k` at most `FILTER_N`, the first `k` slots hold the samples and
the others 0, and the smoothed value is the truncated quotient of the samples' sum by `FILTER_N`, for
either channel and any samples. -/
def Obligations.WarmUpAveragesOverAllSlots : Prop :=
  ∀ (c : Channel) (cfg : Config) (n : Nat) (xs : List (Word × Word)),
    cfg.wellFormed = true → xs.length ≤ cfg.filterN →
    ∃ t, Sys2Proof.core.run xs.length { State.resetOf cfg n with
        hostQueue := List.replicate xs.length (.command (encode (fltInstr c)))
        convAnswers := (xs.map (readAnswers c)).flatten } = .next t ∧
      (∀ j, t.slot c j = ((xs.map (readResult cfg c))[j]?).getD 0) ∧
      (t.chan c).smooth.toNat =
        ((xs.map (fun x => (readResult cfg c x).toNat)).sum) / cfg.filterN

/-- From any state that meets the invariant, `FILTER_N` calls with the same sample give that sample
(43_moving_average_filter.md). -/
def Obligations.IdenticalSamplesSettle : Prop :=
  ∀ (c : Channel) (s : State) (x : Word × Word), s.Inv → s.busy = false →
    s.hostQueue = List.replicate s.cfg.filterN (.command (encode (fltInstr c))) →
    s.convAnswers = (List.replicate s.cfg.filterN (readAnswers c x)).flatten →
    ∃ t, Sys2Proof.core.run s.cfg.filterN s = .next t ∧
      (t.chan c).smooth = readResult s.cfg c x ∧ t.busy = false

/-! ### The framer -/

/-- R170: `FRAME`: what it writes, the events it causes and nothing else, with the document's
end-to-end example. -/
def Obligations.FrameCommand : Prop :=
  decode 0x70 = .ok .frame ∧
  (∀ s : State,
    let w := pack s.angleEl.angle s.angleAz.angle s.chanV.smooth s.chanI.smooth s.switchAnswer
    exec .frame s = .next { s with
      rWord := w, rCrc := crc8 w, busy := false
      switchAnswers := s.switchAnswers.tail, draws := s.draws + 1
      trace := s.trace ++ [.sw s.switchAnswer, .tx (render s.cfg.hexCase w (crc8 w))] }) ∧
  pack 9000 0 100 50 0b10 = 0x0232800000640322 ∧ crc8 0x0232800000640322 = 0xF6 ∧
  render .lower 0x0232800000640322 0xF6 =
    [0x3C, 0x32, 0x33, 0x32, 0x38, 0x30, 0x30, 0x30, 0x30, 0x30, 0x36, 0x34, 0x30, 0x33, 0x32, 0x32,
     0x66, 0x36, 0x3E, 0x0D, 0x0A] ∧
  render .upper 0x0232800000640322 0xF6 =
    [0x3C, 0x32, 0x33, 0x32, 0x38, 0x30, 0x30, 0x30, 0x30, 0x30, 0x36, 0x34, 0x30, 0x33, 0x32, 0x32,
     0x46, 0x36, 0x3E, 0x0D, 0x0A]

/-- The packed word is the sum of its fields at their places, the analog fields their low 12 bits
(30_encoding.md section 5, 44_crc8_frame_checksum.md section 2). -/
def Obligations.PackedWordLayout : Prop :=
  ∀ (e a v c : Word) (s : BitVec 2),
    (pack e a v c s).toNat = e.toNat * 2 ^ 44 + a.toNat * 2 ^ 28 + (v.toNat % 2 ^ 12) * 2 ^ 16 +
      (c.toNat % 2 ^ 12) * 2 ^ 4 + s.toNat ∧
    (pack e a v c s).extractLsb' 60 4 = 0 ∧ (pack e a v c s).extractLsb' 44 16 = e ∧
    (pack e a v c s).extractLsb' 28 16 = a ∧
    (pack e a v c s).extractLsb' 16 12 = v.extractLsb' 0 12 ∧
    (pack e a v c s).extractLsb' 4 12 = c.extractLsb' 0 12 ∧
    (pack e a v c s).extractLsb' 2 2 = 0 ∧ (pack e a v c s).extractLsb' 0 2 = s

/-- R83: a hexadecimal digit. -/
def Obligations.HexDigitCharacters : Prop :=
  ∀ d : BitVec 4,
    (d.toNat ≤ 9 → ∀ h, (hexDigit h d).toNat = 0x30 + d.toNat) ∧
    (10 ≤ d.toNat → (hexDigit .lower d).toNat = 0x61 + (d.toNat - 10) ∧
      (hexDigit .upper d).toNat = 0x41 + (d.toNat - 10))

/-- R82: the telemetry frame is 21 bytes, each from its place in the packed word and its CRC-8. -/
def Obligations.TelemetryFrameLayout : Prop :=
  ∀ (h : HexCase) (w : BitVec 64) (n : Byte), let out := render h w n
    out.length = 21 ∧ out[0]? = some 0x3C ∧
    (∀ i < 15, out[i + 1]? = some (hexDigit h (w.extractLsb' (4 * (14 - i)) 4))) ∧
    out[16]? = some (hexDigit h (n.extractLsb' 4 4)) ∧
    out[17]? = some (hexDigit h (n.extractLsb' 0 4)) ∧
    out[18]? = some 0x3E ∧ out[19]? = some 0x0D ∧ out[20]? = some 0x0A

/-- A receiver that parses the 15 data digits as one number and checks the two CRC digits gets back
the packed word, for every word of 60 bits and either case; and no frame whose CRC digits are those of
another value is accepted (44_crc8_frame_checksum.md section 4). -/
def Obligations.ReceiverRecoversTheWord : Prop :=
  ∀ (h : HexCase) (w : BitVec 64), w.toNat < 2 ^ 60 →
    receive (render h w (crc8 w)) = some w ∧
    ∀ n : Byte, n ≠ crc8 w → receive (render h w n) = none

/-- `FRAME` leaves alone every register but `R_WORD` and `R_CRC`, every slot of memory and the link
(44_crc8_frame_checksum.md section 4). -/
def Obligations.FrameFrame : Prop :=
  ∀ s t : State, exec .frame s = .next t →
    s.SameAngles t ∧ s.SameAnalog t ∧ s.SameComm t ∧ s.SameLink t ∧ s.SameHostSide t ∧
    t.rPay = s.rPay ∧ t.fOk = s.fOk ∧ t.raised = s.raised ∧
    t.linkAnswers = s.linkAnswers ∧ t.convAnswers = s.convAnswers

/-- What `FRAME` sends and writes depends on the two angles, the two smoothed values, the switch
sample and the digit case alone: no flag enters the frame or stops it
(44_crc8_frame_checksum.md section 4, 60_exceptions.md section 7). -/
def Obligations.FrameReadsNoFlag : Prop :=
  ∀ s u : State, s.cfg.hexCase = u.cfg.hexCase →
    (∀ a, (s.angle a).angle = (u.angle a).angle) → (∀ c, (s.chan c).smooth = (u.chan c).smooth) →
    s.switchAnswer = u.switchAnswer →
    ∃ t v es, exec .frame s = .next t ∧ exec .frame u = .next v ∧ t.rWord = v.rWord ∧
      t.rCrc = v.rCrc ∧ t.trace = s.trace ++ es ∧ v.trace = u.trace ++ es

/-- An acquisition and a filter call may come in either order: with every answer listed, both orders
end in the same state but for the order of the recorded events (70_reset_and_hazards.md
section 3). -/
def Obligations.AcquisitionsAndFiltersCommute : Prop :=
  ∀ (a : Axis) (c : Channel) (s : State), 3 ≤ s.linkAnswers.length →
    2 ≤ s.convAnswers.length → (s.chan c).fidx < s.cfg.filterN → s.conversionsAnswered c →
    ∃ t1 t2 u1 u2, exec (acqInstr a) s = .next t1 ∧ exec (fltInstr c) t1 = .next t2 ∧
      exec (fltInstr c) s = .next u1 ∧ exec (acqInstr a) u1 = .next u2 ∧
      u2 = { t2 with trace := u2.trace } ∧ t2.busy = false
end

