-- ==== Sys2Proof/Laws/State.lean ====
section
/-! SUPPORT. One lemma per field per update function of State: what `take`, `complete`, `emit`,
`setAngle`, `setChan`, `selectAssert` and `selectRelease` do to each field, so that no proof unfolds
a record update. -/

namespace Sys2Proof.Machine


/-! ### take, complete -/

@[simp] theorem State.take_cfg (s : State) :
    (s.take).cfg = s.cfg := rfl
@[simp] theorem State.take_angleEl (s : State) :
    (s.take).angleEl = s.angleEl := rfl
@[simp] theorem State.take_angleAz (s : State) :
    (s.take).angleAz = s.angleAz := rfl
@[simp] theorem State.take_chanV (s : State) :
    (s.take).chanV = s.chanV := rfl
@[simp] theorem State.take_chanI (s : State) :
    (s.take).chanI = s.chanI := rfl
@[simp] theorem State.take_rail (s : State) :
    (s.take).rail = s.rail := rfl
@[simp] theorem State.take_coeff (s : State) :
    (s.take).coeff = s.coeff := rfl
@[simp] theorem State.take_din (s : State) :
    (s.take).din = s.din := rfl
@[simp] theorem State.take_sr24 (s : State) :
    (s.take).sr24 = s.sr24 := rfl
@[simp] theorem State.take_rPay (s : State) :
    (s.take).rPay = s.rPay := rfl
@[simp] theorem State.take_rCrc (s : State) :
    (s.take).rCrc = s.rCrc := rfl
@[simp] theorem State.take_fOk (s : State) :
    (s.take).fOk = s.fOk := rfl
@[simp] theorem State.take_rWord (s : State) :
    (s.take).rWord = s.rWord := rfl
@[simp] theorem State.take_comm (s : State) :
    (s.take).comm = s.comm := rfl
@[simp] theorem State.take_adcMux (s : State) :
    (s.take).adcMux = s.adcMux := rfl
@[simp] theorem State.take_adcRef (s : State) :
    (s.take).adcRef = s.adcRef := rfl
@[simp] theorem State.take_selEl (s : State) :
    (s.take).selEl = s.selEl := rfl
@[simp] theorem State.take_selAz (s : State) :
    (s.take).selAz = s.selAz := rfl
@[simp] theorem State.take_lnkPhase (s : State) :
    (s.take).lnkPhase = s.lnkPhase := rfl
@[simp] theorem State.take_afePhase (s : State) :
    (s.take).afePhase = s.afePhase := rfl
@[simp] theorem State.take_hostQueue (s : State) :
    (s.take).hostQueue = s.hostQueue := rfl
@[simp] theorem State.take_linkAnswers (s : State) :
    (s.take).linkAnswers = s.linkAnswers := rfl
@[simp] theorem State.take_convAnswers (s : State) :
    (s.take).convAnswers = s.convAnswers := rfl
@[simp] theorem State.take_switchAnswers (s : State) :
    (s.take).switchAnswers = s.switchAnswers := rfl
@[simp] theorem State.take_draws (s : State) :
    (s.take).draws = s.draws := rfl
@[simp] theorem State.take_trace (s : State) :
    (s.take).trace = s.trace := rfl
@[simp] theorem State.take_raised (s : State) :
    (s.take).raised = s.raised := rfl
@[simp] theorem State.take_busy (s : State) : s.take.busy = true := rfl
@[simp] theorem State.complete_cfg (s : State) :
    (s.complete).cfg = s.cfg := rfl
@[simp] theorem State.complete_angleEl (s : State) :
    (s.complete).angleEl = s.angleEl := rfl
@[simp] theorem State.complete_angleAz (s : State) :
    (s.complete).angleAz = s.angleAz := rfl
@[simp] theorem State.complete_chanV (s : State) :
    (s.complete).chanV = s.chanV := rfl
@[simp] theorem State.complete_chanI (s : State) :
    (s.complete).chanI = s.chanI := rfl
@[simp] theorem State.complete_rail (s : State) :
    (s.complete).rail = s.rail := rfl
@[simp] theorem State.complete_coeff (s : State) :
    (s.complete).coeff = s.coeff := rfl
@[simp] theorem State.complete_din (s : State) :
    (s.complete).din = s.din := rfl
@[simp] theorem State.complete_sr24 (s : State) :
    (s.complete).sr24 = s.sr24 := rfl
@[simp] theorem State.complete_rPay (s : State) :
    (s.complete).rPay = s.rPay := rfl
@[simp] theorem State.complete_rCrc (s : State) :
    (s.complete).rCrc = s.rCrc := rfl
@[simp] theorem State.complete_fOk (s : State) :
    (s.complete).fOk = s.fOk := rfl
@[simp] theorem State.complete_rWord (s : State) :
    (s.complete).rWord = s.rWord := rfl
@[simp] theorem State.complete_comm (s : State) :
    (s.complete).comm = s.comm := rfl
@[simp] theorem State.complete_adcMux (s : State) :
    (s.complete).adcMux = s.adcMux := rfl
@[simp] theorem State.complete_adcRef (s : State) :
    (s.complete).adcRef = s.adcRef := rfl
@[simp] theorem State.complete_selEl (s : State) :
    (s.complete).selEl = s.selEl := rfl
@[simp] theorem State.complete_selAz (s : State) :
    (s.complete).selAz = s.selAz := rfl
@[simp] theorem State.complete_lnkPhase (s : State) :
    (s.complete).lnkPhase = s.lnkPhase := rfl
@[simp] theorem State.complete_afePhase (s : State) :
    (s.complete).afePhase = s.afePhase := rfl
@[simp] theorem State.complete_hostQueue (s : State) :
    (s.complete).hostQueue = s.hostQueue := rfl
@[simp] theorem State.complete_linkAnswers (s : State) :
    (s.complete).linkAnswers = s.linkAnswers := rfl
@[simp] theorem State.complete_convAnswers (s : State) :
    (s.complete).convAnswers = s.convAnswers := rfl
@[simp] theorem State.complete_switchAnswers (s : State) :
    (s.complete).switchAnswers = s.switchAnswers := rfl
@[simp] theorem State.complete_draws (s : State) :
    (s.complete).draws = s.draws := rfl
@[simp] theorem State.complete_trace (s : State) :
    (s.complete).trace = s.trace := rfl
@[simp] theorem State.complete_raised (s : State) :
    (s.complete).raised = s.raised := rfl
@[simp] theorem State.complete_busy (s : State) : s.complete.busy = false := rfl

/-! ### emit -/

@[simp] theorem State.emit_cfg (s : State) (e : Event) :
    (s.emit e).cfg = s.cfg := rfl
@[simp] theorem State.emit_angleEl (s : State) (e : Event) :
    (s.emit e).angleEl = s.angleEl := rfl
@[simp] theorem State.emit_angleAz (s : State) (e : Event) :
    (s.emit e).angleAz = s.angleAz := rfl
@[simp] theorem State.emit_chanV (s : State) (e : Event) :
    (s.emit e).chanV = s.chanV := rfl
@[simp] theorem State.emit_chanI (s : State) (e : Event) :
    (s.emit e).chanI = s.chanI := rfl
@[simp] theorem State.emit_rail (s : State) (e : Event) :
    (s.emit e).rail = s.rail := rfl
@[simp] theorem State.emit_coeff (s : State) (e : Event) :
    (s.emit e).coeff = s.coeff := rfl
@[simp] theorem State.emit_din (s : State) (e : Event) :
    (s.emit e).din = s.din := rfl
@[simp] theorem State.emit_sr24 (s : State) (e : Event) :
    (s.emit e).sr24 = s.sr24 := rfl
@[simp] theorem State.emit_rPay (s : State) (e : Event) :
    (s.emit e).rPay = s.rPay := rfl
@[simp] theorem State.emit_rCrc (s : State) (e : Event) :
    (s.emit e).rCrc = s.rCrc := rfl
@[simp] theorem State.emit_fOk (s : State) (e : Event) :
    (s.emit e).fOk = s.fOk := rfl
@[simp] theorem State.emit_rWord (s : State) (e : Event) :
    (s.emit e).rWord = s.rWord := rfl
@[simp] theorem State.emit_comm (s : State) (e : Event) :
    (s.emit e).comm = s.comm := rfl
@[simp] theorem State.emit_adcMux (s : State) (e : Event) :
    (s.emit e).adcMux = s.adcMux := rfl
@[simp] theorem State.emit_adcRef (s : State) (e : Event) :
    (s.emit e).adcRef = s.adcRef := rfl
@[simp] theorem State.emit_selEl (s : State) (e : Event) :
    (s.emit e).selEl = s.selEl := rfl
@[simp] theorem State.emit_selAz (s : State) (e : Event) :
    (s.emit e).selAz = s.selAz := rfl
@[simp] theorem State.emit_busy (s : State) (e : Event) :
    (s.emit e).busy = s.busy := rfl
@[simp] theorem State.emit_lnkPhase (s : State) (e : Event) :
    (s.emit e).lnkPhase = s.lnkPhase := rfl
@[simp] theorem State.emit_afePhase (s : State) (e : Event) :
    (s.emit e).afePhase = s.afePhase := rfl
@[simp] theorem State.emit_hostQueue (s : State) (e : Event) :
    (s.emit e).hostQueue = s.hostQueue := rfl
@[simp] theorem State.emit_linkAnswers (s : State) (e : Event) :
    (s.emit e).linkAnswers = s.linkAnswers := rfl
@[simp] theorem State.emit_convAnswers (s : State) (e : Event) :
    (s.emit e).convAnswers = s.convAnswers := rfl
@[simp] theorem State.emit_switchAnswers (s : State) (e : Event) :
    (s.emit e).switchAnswers = s.switchAnswers := rfl
@[simp] theorem State.emit_draws (s : State) (e : Event) :
    (s.emit e).draws = s.draws := rfl
@[simp] theorem State.emit_raised (s : State) (e : Event) :
    (s.emit e).raised = s.raised := rfl
@[simp] theorem State.emit_trace (s : State) (e : Event) :
    (s.emit e).trace = s.trace ++ [e] := rfl

/-! ### setAngle -/

@[simp] theorem State.setAngle_cfg (s : State) (a : Axis) (r : AngleReading) :
    (s.setAngle a r).cfg = s.cfg := by cases a <;> rfl
@[simp] theorem State.setAngle_chanV (s : State) (a : Axis) (r : AngleReading) :
    (s.setAngle a r).chanV = s.chanV := by cases a <;> rfl
@[simp] theorem State.setAngle_chanI (s : State) (a : Axis) (r : AngleReading) :
    (s.setAngle a r).chanI = s.chanI := by cases a <;> rfl
@[simp] theorem State.setAngle_rail (s : State) (a : Axis) (r : AngleReading) :
    (s.setAngle a r).rail = s.rail := by cases a <;> rfl
@[simp] theorem State.setAngle_coeff (s : State) (a : Axis) (r : AngleReading) :
    (s.setAngle a r).coeff = s.coeff := by cases a <;> rfl
@[simp] theorem State.setAngle_din (s : State) (a : Axis) (r : AngleReading) :
    (s.setAngle a r).din = s.din := by cases a <;> rfl
@[simp] theorem State.setAngle_sr24 (s : State) (a : Axis) (r : AngleReading) :
    (s.setAngle a r).sr24 = s.sr24 := by cases a <;> rfl
@[simp] theorem State.setAngle_rPay (s : State) (a : Axis) (r : AngleReading) :
    (s.setAngle a r).rPay = s.rPay := by cases a <;> rfl
@[simp] theorem State.setAngle_rCrc (s : State) (a : Axis) (r : AngleReading) :
    (s.setAngle a r).rCrc = s.rCrc := by cases a <;> rfl
@[simp] theorem State.setAngle_fOk (s : State) (a : Axis) (r : AngleReading) :
    (s.setAngle a r).fOk = s.fOk := by cases a <;> rfl
@[simp] theorem State.setAngle_rWord (s : State) (a : Axis) (r : AngleReading) :
    (s.setAngle a r).rWord = s.rWord := by cases a <;> rfl
@[simp] theorem State.setAngle_comm (s : State) (a : Axis) (r : AngleReading) :
    (s.setAngle a r).comm = s.comm := by cases a <;> rfl
@[simp] theorem State.setAngle_adcMux (s : State) (a : Axis) (r : AngleReading) :
    (s.setAngle a r).adcMux = s.adcMux := by cases a <;> rfl
@[simp] theorem State.setAngle_adcRef (s : State) (a : Axis) (r : AngleReading) :
    (s.setAngle a r).adcRef = s.adcRef := by cases a <;> rfl
@[simp] theorem State.setAngle_selEl (s : State) (a : Axis) (r : AngleReading) :
    (s.setAngle a r).selEl = s.selEl := by cases a <;> rfl
@[simp] theorem State.setAngle_selAz (s : State) (a : Axis) (r : AngleReading) :
    (s.setAngle a r).selAz = s.selAz := by cases a <;> rfl
@[simp] theorem State.setAngle_busy (s : State) (a : Axis) (r : AngleReading) :
    (s.setAngle a r).busy = s.busy := by cases a <;> rfl
@[simp] theorem State.setAngle_lnkPhase (s : State) (a : Axis) (r : AngleReading) :
    (s.setAngle a r).lnkPhase = s.lnkPhase := by cases a <;> rfl
@[simp] theorem State.setAngle_afePhase (s : State) (a : Axis) (r : AngleReading) :
    (s.setAngle a r).afePhase = s.afePhase := by cases a <;> rfl
@[simp] theorem State.setAngle_hostQueue (s : State) (a : Axis) (r : AngleReading) :
    (s.setAngle a r).hostQueue = s.hostQueue := by cases a <;> rfl
@[simp] theorem State.setAngle_linkAnswers (s : State) (a : Axis) (r : AngleReading) :
    (s.setAngle a r).linkAnswers = s.linkAnswers := by cases a <;> rfl
@[simp] theorem State.setAngle_convAnswers (s : State) (a : Axis) (r : AngleReading) :
    (s.setAngle a r).convAnswers = s.convAnswers := by cases a <;> rfl
@[simp] theorem State.setAngle_switchAnswers (s : State) (a : Axis) (r : AngleReading) :
    (s.setAngle a r).switchAnswers = s.switchAnswers := by cases a <;> rfl
@[simp] theorem State.setAngle_draws (s : State) (a : Axis) (r : AngleReading) :
    (s.setAngle a r).draws = s.draws := by cases a <;> rfl
@[simp] theorem State.setAngle_trace (s : State) (a : Axis) (r : AngleReading) :
    (s.setAngle a r).trace = s.trace := by cases a <;> rfl
@[simp] theorem State.setAngle_raised (s : State) (a : Axis) (r : AngleReading) :
    (s.setAngle a r).raised = s.raised := by cases a <;> rfl
@[simp] theorem State.setAngle_angleEl_el (s : State) (r : AngleReading) :
    (s.setAngle .el r).angleEl = r := rfl
@[simp] theorem State.setAngle_angleEl_az (s : State) (r : AngleReading) :
    (s.setAngle .az r).angleEl = s.angleEl := rfl
@[simp] theorem State.setAngle_angleAz_az (s : State) (r : AngleReading) :
    (s.setAngle .az r).angleAz = r := rfl
@[simp] theorem State.setAngle_angleAz_el (s : State) (r : AngleReading) :
    (s.setAngle .el r).angleAz = s.angleAz := rfl
@[simp] theorem State.setAngle_angle_same (s : State) (a : Axis) (r : AngleReading) :
    (s.setAngle a r).angle a = r := by cases a <;> rfl
theorem State.setAngle_angle_other (s : State) (r : AngleReading) {a b : Axis} (h : b ≠ a) :
    (s.setAngle a r).angle b = s.angle b := by cases a <;> cases b <;> first | rfl | exact absurd rfl h
@[simp] theorem State.setAngle_chan (s : State) (a : Axis) (r : AngleReading) (c : Channel) :
    (s.setAngle a r).chan c = s.chan c := by cases a <;> rfl

/-! ### setChan -/

@[simp] theorem State.setChan_cfg (s : State) (c : Channel) (g : AnalogChannel) :
    (s.setChan c g).cfg = s.cfg := by cases c <;> rfl
@[simp] theorem State.setChan_angleEl (s : State) (c : Channel) (g : AnalogChannel) :
    (s.setChan c g).angleEl = s.angleEl := by cases c <;> rfl
@[simp] theorem State.setChan_angleAz (s : State) (c : Channel) (g : AnalogChannel) :
    (s.setChan c g).angleAz = s.angleAz := by cases c <;> rfl
@[simp] theorem State.setChan_rail (s : State) (c : Channel) (g : AnalogChannel) :
    (s.setChan c g).rail = s.rail := by cases c <;> rfl
@[simp] theorem State.setChan_coeff (s : State) (c : Channel) (g : AnalogChannel) :
    (s.setChan c g).coeff = s.coeff := by cases c <;> rfl
@[simp] theorem State.setChan_din (s : State) (c : Channel) (g : AnalogChannel) :
    (s.setChan c g).din = s.din := by cases c <;> rfl
@[simp] theorem State.setChan_sr24 (s : State) (c : Channel) (g : AnalogChannel) :
    (s.setChan c g).sr24 = s.sr24 := by cases c <;> rfl
@[simp] theorem State.setChan_rPay (s : State) (c : Channel) (g : AnalogChannel) :
    (s.setChan c g).rPay = s.rPay := by cases c <;> rfl
@[simp] theorem State.setChan_rCrc (s : State) (c : Channel) (g : AnalogChannel) :
    (s.setChan c g).rCrc = s.rCrc := by cases c <;> rfl
@[simp] theorem State.setChan_fOk (s : State) (c : Channel) (g : AnalogChannel) :
    (s.setChan c g).fOk = s.fOk := by cases c <;> rfl
@[simp] theorem State.setChan_rWord (s : State) (c : Channel) (g : AnalogChannel) :
    (s.setChan c g).rWord = s.rWord := by cases c <;> rfl
@[simp] theorem State.setChan_comm (s : State) (c : Channel) (g : AnalogChannel) :
    (s.setChan c g).comm = s.comm := by cases c <;> rfl
@[simp] theorem State.setChan_adcMux (s : State) (c : Channel) (g : AnalogChannel) :
    (s.setChan c g).adcMux = s.adcMux := by cases c <;> rfl
@[simp] theorem State.setChan_adcRef (s : State) (c : Channel) (g : AnalogChannel) :
    (s.setChan c g).adcRef = s.adcRef := by cases c <;> rfl
@[simp] theorem State.setChan_selEl (s : State) (c : Channel) (g : AnalogChannel) :
    (s.setChan c g).selEl = s.selEl := by cases c <;> rfl
@[simp] theorem State.setChan_selAz (s : State) (c : Channel) (g : AnalogChannel) :
    (s.setChan c g).selAz = s.selAz := by cases c <;> rfl
@[simp] theorem State.setChan_busy (s : State) (c : Channel) (g : AnalogChannel) :
    (s.setChan c g).busy = s.busy := by cases c <;> rfl
@[simp] theorem State.setChan_lnkPhase (s : State) (c : Channel) (g : AnalogChannel) :
    (s.setChan c g).lnkPhase = s.lnkPhase := by cases c <;> rfl
@[simp] theorem State.setChan_afePhase (s : State) (c : Channel) (g : AnalogChannel) :
    (s.setChan c g).afePhase = s.afePhase := by cases c <;> rfl
@[simp] theorem State.setChan_hostQueue (s : State) (c : Channel) (g : AnalogChannel) :
    (s.setChan c g).hostQueue = s.hostQueue := by cases c <;> rfl
@[simp] theorem State.setChan_linkAnswers (s : State) (c : Channel) (g : AnalogChannel) :
    (s.setChan c g).linkAnswers = s.linkAnswers := by cases c <;> rfl
@[simp] theorem State.setChan_convAnswers (s : State) (c : Channel) (g : AnalogChannel) :
    (s.setChan c g).convAnswers = s.convAnswers := by cases c <;> rfl
@[simp] theorem State.setChan_switchAnswers (s : State) (c : Channel) (g : AnalogChannel) :
    (s.setChan c g).switchAnswers = s.switchAnswers := by cases c <;> rfl
@[simp] theorem State.setChan_draws (s : State) (c : Channel) (g : AnalogChannel) :
    (s.setChan c g).draws = s.draws := by cases c <;> rfl
@[simp] theorem State.setChan_trace (s : State) (c : Channel) (g : AnalogChannel) :
    (s.setChan c g).trace = s.trace := by cases c <;> rfl
@[simp] theorem State.setChan_raised (s : State) (c : Channel) (g : AnalogChannel) :
    (s.setChan c g).raised = s.raised := by cases c <;> rfl
@[simp] theorem State.setChan_chanV_v (s : State) (g : AnalogChannel) :
    (s.setChan .v g).chanV = g := rfl
@[simp] theorem State.setChan_chanV_i (s : State) (g : AnalogChannel) :
    (s.setChan .i g).chanV = s.chanV := rfl
@[simp] theorem State.setChan_chanI_i (s : State) (g : AnalogChannel) :
    (s.setChan .i g).chanI = g := rfl
@[simp] theorem State.setChan_chanI_v (s : State) (g : AnalogChannel) :
    (s.setChan .v g).chanI = s.chanI := rfl
@[simp] theorem State.setChan_chan_same (s : State) (c : Channel) (g : AnalogChannel) :
    (s.setChan c g).chan c = g := by cases c <;> rfl
theorem State.setChan_chan_other (s : State) (g : AnalogChannel) {c d : Channel} (h : d ≠ c) :
    (s.setChan c g).chan d = s.chan d := by cases c <;> cases d <;> first | rfl | exact absurd rfl h
@[simp] theorem State.setChan_angle (s : State) (c : Channel) (g : AnalogChannel) (a : Axis) :
    (s.setChan c g).angle a = s.angle a := by cases c <;> rfl

/-! ### selectAssert, selectRelease -/

@[simp] theorem State.selectAssert_cfg (s : State) (a : Axis) :
    (s.selectAssert a).cfg = s.cfg := by cases a <;> rfl
@[simp] theorem State.selectAssert_angleEl (s : State) (a : Axis) :
    (s.selectAssert a).angleEl = s.angleEl := by cases a <;> rfl
@[simp] theorem State.selectAssert_angleAz (s : State) (a : Axis) :
    (s.selectAssert a).angleAz = s.angleAz := by cases a <;> rfl
@[simp] theorem State.selectAssert_chanV (s : State) (a : Axis) :
    (s.selectAssert a).chanV = s.chanV := by cases a <;> rfl
@[simp] theorem State.selectAssert_chanI (s : State) (a : Axis) :
    (s.selectAssert a).chanI = s.chanI := by cases a <;> rfl
@[simp] theorem State.selectAssert_rail (s : State) (a : Axis) :
    (s.selectAssert a).rail = s.rail := by cases a <;> rfl
@[simp] theorem State.selectAssert_coeff (s : State) (a : Axis) :
    (s.selectAssert a).coeff = s.coeff := by cases a <;> rfl
@[simp] theorem State.selectAssert_din (s : State) (a : Axis) :
    (s.selectAssert a).din = s.din := by cases a <;> rfl
@[simp] theorem State.selectAssert_sr24 (s : State) (a : Axis) :
    (s.selectAssert a).sr24 = s.sr24 := by cases a <;> rfl
@[simp] theorem State.selectAssert_rPay (s : State) (a : Axis) :
    (s.selectAssert a).rPay = s.rPay := by cases a <;> rfl
@[simp] theorem State.selectAssert_rCrc (s : State) (a : Axis) :
    (s.selectAssert a).rCrc = s.rCrc := by cases a <;> rfl
@[simp] theorem State.selectAssert_fOk (s : State) (a : Axis) :
    (s.selectAssert a).fOk = s.fOk := by cases a <;> rfl
@[simp] theorem State.selectAssert_rWord (s : State) (a : Axis) :
    (s.selectAssert a).rWord = s.rWord := by cases a <;> rfl
@[simp] theorem State.selectAssert_comm (s : State) (a : Axis) :
    (s.selectAssert a).comm = s.comm := by cases a <;> rfl
@[simp] theorem State.selectAssert_adcMux (s : State) (a : Axis) :
    (s.selectAssert a).adcMux = s.adcMux := by cases a <;> rfl
@[simp] theorem State.selectAssert_adcRef (s : State) (a : Axis) :
    (s.selectAssert a).adcRef = s.adcRef := by cases a <;> rfl
@[simp] theorem State.selectAssert_busy (s : State) (a : Axis) :
    (s.selectAssert a).busy = s.busy := by cases a <;> rfl
@[simp] theorem State.selectAssert_lnkPhase (s : State) (a : Axis) :
    (s.selectAssert a).lnkPhase = s.lnkPhase := by cases a <;> rfl
@[simp] theorem State.selectAssert_afePhase (s : State) (a : Axis) :
    (s.selectAssert a).afePhase = s.afePhase := by cases a <;> rfl
@[simp] theorem State.selectAssert_hostQueue (s : State) (a : Axis) :
    (s.selectAssert a).hostQueue = s.hostQueue := by cases a <;> rfl
@[simp] theorem State.selectAssert_linkAnswers (s : State) (a : Axis) :
    (s.selectAssert a).linkAnswers = s.linkAnswers := by cases a <;> rfl
@[simp] theorem State.selectAssert_convAnswers (s : State) (a : Axis) :
    (s.selectAssert a).convAnswers = s.convAnswers := by cases a <;> rfl
@[simp] theorem State.selectAssert_switchAnswers (s : State) (a : Axis) :
    (s.selectAssert a).switchAnswers = s.switchAnswers := by cases a <;> rfl
@[simp] theorem State.selectAssert_draws (s : State) (a : Axis) :
    (s.selectAssert a).draws = s.draws := by cases a <;> rfl
@[simp] theorem State.selectAssert_raised (s : State) (a : Axis) :
    (s.selectAssert a).raised = s.raised := by cases a <;> rfl
@[simp] theorem State.selectAssert_trace (s : State) (a : Axis) :
    (s.selectAssert a).trace = s.trace ++ [.selLow a] := by cases a <;> rfl
@[simp] theorem State.selectAssert_sel_same (s : State) (a : Axis) :
    (s.selectAssert a).sel a = false := by cases a <;> rfl
theorem State.selectAssert_sel_other (s : State) {a b : Axis} (h : b ≠ a) :
    (s.selectAssert a).sel b = s.sel b := by cases a <;> cases b <;> first | rfl | exact absurd rfl h
@[simp] theorem State.selectRelease_cfg (s : State) (a : Axis) :
    (s.selectRelease a).cfg = s.cfg := by cases a <;> rfl
@[simp] theorem State.selectRelease_angleEl (s : State) (a : Axis) :
    (s.selectRelease a).angleEl = s.angleEl := by cases a <;> rfl
@[simp] theorem State.selectRelease_angleAz (s : State) (a : Axis) :
    (s.selectRelease a).angleAz = s.angleAz := by cases a <;> rfl
@[simp] theorem State.selectRelease_chanV (s : State) (a : Axis) :
    (s.selectRelease a).chanV = s.chanV := by cases a <;> rfl
@[simp] theorem State.selectRelease_chanI (s : State) (a : Axis) :
    (s.selectRelease a).chanI = s.chanI := by cases a <;> rfl
@[simp] theorem State.selectRelease_rail (s : State) (a : Axis) :
    (s.selectRelease a).rail = s.rail := by cases a <;> rfl
@[simp] theorem State.selectRelease_coeff (s : State) (a : Axis) :
    (s.selectRelease a).coeff = s.coeff := by cases a <;> rfl
@[simp] theorem State.selectRelease_din (s : State) (a : Axis) :
    (s.selectRelease a).din = s.din := by cases a <;> rfl
@[simp] theorem State.selectRelease_sr24 (s : State) (a : Axis) :
    (s.selectRelease a).sr24 = s.sr24 := by cases a <;> rfl
@[simp] theorem State.selectRelease_rPay (s : State) (a : Axis) :
    (s.selectRelease a).rPay = s.rPay := by cases a <;> rfl
@[simp] theorem State.selectRelease_rCrc (s : State) (a : Axis) :
    (s.selectRelease a).rCrc = s.rCrc := by cases a <;> rfl
@[simp] theorem State.selectRelease_fOk (s : State) (a : Axis) :
    (s.selectRelease a).fOk = s.fOk := by cases a <;> rfl
@[simp] theorem State.selectRelease_rWord (s : State) (a : Axis) :
    (s.selectRelease a).rWord = s.rWord := by cases a <;> rfl
@[simp] theorem State.selectRelease_comm (s : State) (a : Axis) :
    (s.selectRelease a).comm = s.comm := by cases a <;> rfl
@[simp] theorem State.selectRelease_adcMux (s : State) (a : Axis) :
    (s.selectRelease a).adcMux = s.adcMux := by cases a <;> rfl
@[simp] theorem State.selectRelease_adcRef (s : State) (a : Axis) :
    (s.selectRelease a).adcRef = s.adcRef := by cases a <;> rfl
@[simp] theorem State.selectRelease_busy (s : State) (a : Axis) :
    (s.selectRelease a).busy = s.busy := by cases a <;> rfl
@[simp] theorem State.selectRelease_lnkPhase (s : State) (a : Axis) :
    (s.selectRelease a).lnkPhase = s.lnkPhase := by cases a <;> rfl
@[simp] theorem State.selectRelease_afePhase (s : State) (a : Axis) :
    (s.selectRelease a).afePhase = s.afePhase := by cases a <;> rfl
@[simp] theorem State.selectRelease_hostQueue (s : State) (a : Axis) :
    (s.selectRelease a).hostQueue = s.hostQueue := by cases a <;> rfl
@[simp] theorem State.selectRelease_linkAnswers (s : State) (a : Axis) :
    (s.selectRelease a).linkAnswers = s.linkAnswers := by cases a <;> rfl
@[simp] theorem State.selectRelease_convAnswers (s : State) (a : Axis) :
    (s.selectRelease a).convAnswers = s.convAnswers := by cases a <;> rfl
@[simp] theorem State.selectRelease_switchAnswers (s : State) (a : Axis) :
    (s.selectRelease a).switchAnswers = s.switchAnswers := by cases a <;> rfl
@[simp] theorem State.selectRelease_draws (s : State) (a : Axis) :
    (s.selectRelease a).draws = s.draws := by cases a <;> rfl
@[simp] theorem State.selectRelease_raised (s : State) (a : Axis) :
    (s.selectRelease a).raised = s.raised := by cases a <;> rfl
@[simp] theorem State.selectRelease_trace (s : State) (a : Axis) :
    (s.selectRelease a).trace = s.trace ++ [.selHigh a] := by cases a <;> rfl
@[simp] theorem State.selectRelease_sel_same (s : State) (a : Axis) :
    (s.selectRelease a).sel a = true := by cases a <;> rfl
theorem State.selectRelease_sel_other (s : State) {a b : Axis} (h : b ≠ a) :
    (s.selectRelease a).sel b = s.sel b := by cases a <;> cases b <;> first | rfl | exact absurd rfl h

end Sys2Proof.Machine
end

