-- ==== Sys2Proof/Laws/Memory.lean ====
section
/-! SUPPORT. The laws of a buffer memory (20_memory.md R51): a write keeps the canonical form, the
slot written holds the value, every other slot is as before; and what a write does to the sum of the
slots. -/

namespace Sys2Proof.Machine

theorem Memory.read_nil (i : Nat) : Memory.read [] i = 0 := rfl

/-- The canonical form says each of its parts at the head. -/
theorem Memory.wfFrom_cons {n lo k : Nat} {v : Word} {m : Memory} :
    Memory.wfFrom n lo ((k, v) :: m) = true ↔
      lo ≤ k ∧ k < n ∧ v ≠ 0 ∧ Memory.wfFrom n (k + 1) m = true := by
  simp [Memory.wfFrom, and_assoc]

/-- Lowering the bound keeps the canonical form. -/
theorem Memory.wfFrom_mono {n lo lo' : Nat} {m : Memory} (h : lo' ≤ lo)
    (hm : Memory.wfFrom n lo m = true) : Memory.wfFrom n lo' m = true := by
  cases m with
  | nil => rfl
  | cons p m =>
    obtain ⟨h1, h2⟩ := Memory.wfFrom_cons.1 hm
    exact Memory.wfFrom_cons.2 ⟨h.trans h1, h2⟩

/-- Below its bound a buffer in canonical form lists nothing. -/
theorem Memory.read_below {n lo i : Nat} {m : Memory} (hm : Memory.wfFrom n lo m = true)
    (hi : i < lo) : m.read i = 0 := by
  induction m generalizing lo with
  | nil => rfl
  | cons p m ih =>
    obtain ⟨h1, -, -, h4⟩ := Memory.wfFrom_cons.1 hm
    have hne : p.1 ≠ i := by omega
    simp [Memory.read, hne, ih h4 (by omega)]

theorem Memory.wfFrom_write {n lo i : Nat} {v : Word} {m : Memory}
    (hm : Memory.wfFrom n lo m = true) (hlo : lo ≤ i) (hn : i < n) :
    Memory.wfFrom n lo (m.write i v) = true := by
  induction m generalizing lo with
  | nil =>
    unfold Memory.write
    split
    · rfl
    · exact Memory.wfFrom_cons.2 ⟨hlo, hn, ‹_›, rfl⟩
  | cons p m ih =>
    obtain ⟨k, w⟩ := p
    obtain ⟨h1, h2, h3, h4⟩ := Memory.wfFrom_cons.1 hm
    unfold Memory.write
    split
    · split
      · exact hm
      · exact Memory.wfFrom_cons.2 ⟨hlo, hn, ‹_›, Memory.wfFrom_cons.2 ⟨by omega, h2, h3, h4⟩⟩
    · split
      · subst i
        split
        · exact Memory.wfFrom_mono (by omega) h4
        · exact Memory.wfFrom_cons.2 ⟨h1, h2, ‹_›, h4⟩
      · exact Memory.wfFrom_cons.2 ⟨h1, h2, h3, ih h4 (by omega)⟩

/-- A write to a slot of the buffer keeps the canonical form. -/
theorem Memory.wf_write {n i : Nat} {v : Word} {m : Memory} (hm : Memory.wf n m = true)
    (hn : i < n) : Memory.wf n (m.write i v) = true :=
  Memory.wfFrom_write hm (Nat.zero_le i) hn

/-- The buffer after reset is in canonical form. -/
theorem Memory.wf_nil (n : Nat) : Memory.wf n [] = true := rfl

theorem Memory.read_write_other {m : Memory} {i j : Nat} {v : Word} (h : j ≠ i) :
    (m.write i v).read j = m.read j := by
  induction m with
  | nil =>
    unfold Memory.write
    split <;> simp [Memory.read, h.symm]
  | cons p m ih =>
    obtain ⟨k, w⟩ := p
    unfold Memory.write
    split
    · split <;> simp [Memory.read, h.symm]
    · split
      · subst i
        split <;> simp [Memory.read, h.symm]
      · simp [Memory.read, ih]

theorem Memory.read_write_same {n lo i : Nat} {m : Memory} {v : Word}
    (hm : Memory.wfFrom n lo m = true) : (m.write i v).read i = v := by
  induction m generalizing lo with
  | nil =>
    unfold Memory.write
    split <;> simp_all [Memory.read]
  | cons p m ih =>
    obtain ⟨k, w⟩ := p
    obtain ⟨-, -, -, h4⟩ := Memory.wfFrom_cons.1 hm
    unfold Memory.write
    split
    · have hk : k ≠ i := by omega
      split
      · have := Memory.read_below h4 (i := i) (by omega)
        simp_all [Memory.read]
      · simp [Memory.read]
    · split
      · subst i
        split
        · simp [Memory.read_below h4 (Nat.lt_succ_self k), *]
        · simp [Memory.read]
      · have hk : k ≠ i := by omega
        simp [Memory.read, hk, ih h4]

/-- A read after a write, in one equation. -/
theorem Memory.read_write {n : Nat} {m : Memory} (i j : Nat) (v : Word)
    (hm : Memory.wf n m = true) : (m.write i v).read j = if j = i then v else m.read j := by
  split
  · subst j; exact Memory.read_write_same hm
  · exact Memory.read_write_other ‹_›

/-- Writing above the summed slots does not change their sum. -/
theorem Memory.sum_write_above {m : Memory} {i n : Nat} {v : Word} (h : n ≤ i) :
    (m.write i v).sum n = m.sum n := by
  induction n with
  | zero => rfl
  | succ n ih =>
    simp only [Memory.sum]
    rw [ih (by omega), Memory.read_write_other (by omega)]

theorem Memory.sum_le (m : Memory) (n : Nat) : m.sum n ≤ n * 65535 := by
  induction n with
  | zero => simp [Memory.sum]
  | succ n ih =>
    have := (m.read n).isLt
    simp only [Memory.sum]
    omega

/-- The mean of 16-bit slots has 16 bits (R155). -/
theorem Memory.mean_lt (m : Memory) (n : Nat) : m.sum n / n < 2 ^ 16 := by
  rcases Nat.eq_zero_or_pos n with rfl | hn
  · simp
  · have := m.sum_le n
    rw [Nat.div_lt_iff_lt_mul hn]
    nlinarith

theorem Memory.sum_nil (n : Nat) : Memory.sum [] n = 0 := by
  induction n with
  | zero => rfl
  | succ n ih => simp [Memory.sum, ih, Memory.read_nil]

/-- The sum over slots as a sum over a range. -/
theorem Memory.sum_eq_range (m : Memory) (n : Nat) :
    m.sum n = ∑ j ∈ Finset.range n, (m.read j).toNat := by
  induction n with
  | zero => rfl
  | succ n ih => rw [Finset.sum_range_succ, ← ih]; rfl

end Sys2Proof.Machine
end

