-- ==== Sys2Proof/Laws/Ops.lean ====
section
/-! SUPPORT. One spec lemma per shared operation: everything it can do, for callers to cite instead
of unfolding it. -/

namespace Sys2Proof.Machine

/-! ### Externals -/

theorem State.linkRead_eq (s : State) :
    s.linkRead = (s.linkAnswer 0,
      { s with linkAnswers := s.linkAnswers.tail, draws := s.draws + 1,
               trace := s.trace ++ [.read (s.linkByte 0) (s.linkTimesOut 0)] }) := rfl

/-- After `k` answers have been taken the next one is the `k`-th. -/
theorem State.linkAnswer_shift (s t : State) (k j : Nat)
    (hl : t.linkAnswers = s.linkAnswers.drop k) (hd : t.draws = s.draws + k) :
    t.linkAnswer j = s.linkAnswer (k + j) := by
  unfold State.linkAnswer
  rw [hl, hd, List.getD_eq_getElem?_getD, List.getD_eq_getElem?_getD, List.getElem?_drop,
    Nat.add_assoc]

theorem State.convAnswer_shift (s t : State) (k j : Nat) (hc : t.cfg = s.cfg)
    (hl : t.convAnswers = s.convAnswers.drop k) (hd : t.draws = s.draws + k) :
    t.convAnswer j = s.convAnswer (k + j) := by
  unfold State.convAnswer
  rw [hl, hd, hc, List.getD_eq_getElem?_getD, List.getD_eq_getElem?_getD, List.getElem?_drop,
    Nat.add_assoc]

theorem State.adcConvert_some {s : State} {code : Word} (h : s.convAnswer 0 = some code) :
    s.adcConvert = (some code, s.popConv.emit (.convert code)) := by
  simp [State.adcConvert, h]

theorem State.adcConvert_none {s : State} (h : s.convAnswer 0 = none) :
    s.adcConvert = (none, s.popConv) := by
  simp [State.adcConvert, h]

/-- `raise` on a link timeout sets the warning and records the event. -/
theorem State.raiseIfTimedOut_eq (s : State) (a : Axis) (k : Fin 3) (b : Bool) :
    s.raiseIfTimedOut a k b =
      { s with comm := { s.comm with warning := s.comm.warning || b },
               raised := s.raised ++ (if b then [.linkTimeout a k] else []) } := by
  cases b <;> simp [State.raiseIfTimedOut, State.raise]

/-- A CRC mismatch is recorded and changes nothing else. -/
theorem State.raiseIfMismatch_eq (s : State) (a : Axis) (ok : Bool) :
    s.raiseIfMismatch a ok =
      { s with raised := s.raised ++ (if ok then [] else [.crc6Mismatch a]) } := by
  cases ok <;> simp [State.raiseIfMismatch, State.raise]

theorem State.selectAssert_eq (s : State) (a : Axis) :
    s.selectAssert a =
      { s with selEl := s.selEl && decide (a ≠ .el), selAz := s.selAz && decide (a ≠ .az),
               trace := s.trace ++ [.selLow a] } := by
  cases a <;> simp [State.selectAssert, State.emit]

theorem State.selectRelease_eq (s : State) (a : Axis) :
    s.selectRelease a =
      { s with selEl := s.selEl || decide (a = .el), selAz := s.selAz || decide (a = .az),
               trace := s.trace ++ [.selHigh a] } := by
  cases a <;> simp [State.selectRelease, State.emit]

/-! ### The angle link -/

theorem State.shiftByte_eq (s : State) (a : Axis) (k : Fin 3) :
    s.shiftByte a k = (s.linkByte 0,
      { s with
        lnkPhase := LnkPhase.ofByte k
        comm := { s.comm with warning := s.comm.warning || s.linkTimesOut 0 }
        linkAnswers := s.linkAnswers.tail
        draws := s.draws + 1
        trace := s.trace ++
          [.send s.cfg.dummyByte, .read (s.linkByte 0) (s.linkTimesOut 0)]
        raised := s.raised ++ (if s.linkTimesOut 0 then [.linkTimeout a k] else []) }) := by
  simp [State.shiftByte, State.linkSend, State.linkRead_eq, State.raiseIfTimedOut_eq,
    State.emit, State.linkByte, State.linkTimesOut, State.linkAnswer]

/-- The verification of the frame that an acquisition begun in `s` shifts in. -/
def State.linkVerified (s : State) : Verified :=
  verifyAndStrip s.cfg.crc6Init (frameOfBytes (s.linkByte 0) (s.linkByte 1) (s.linkByte 2))

theorem State.linkAnswer_tail (s t : State) (j : Nat)
    (hl : t.linkAnswers = s.linkAnswers.tail) (hd : t.draws = s.draws + 1) :
    t.linkAnswer j = s.linkAnswer (j + 1) := by
  rw [State.linkAnswer_shift s t 1 j (by simpa using hl) hd, Nat.add_comm]

/-- Everything `acquire(a)` does (R110). -/
theorem State.acquire_eq (s : State) (a : Axis) :
    s.acquire a =
      { s.setAngle a (readingOf s.linkVerified) with
        sr24 := frameOfBytes (s.linkByte 0) (s.linkByte 1) (s.linkByte 2)
        rPay := s.linkVerified.payload
        rCrc := s.linkVerified.crc.zeroExtend 8
        fOk := s.linkVerified.ok
        comm := { s.comm with
          warning := s.comm.warning || s.linkTimesOut 0 || s.linkTimesOut 1 || s.linkTimesOut 2 }
        selEl := s.selEl || decide (a = .el)
        selAz := s.selAz || decide (a = .az)
        lnkPhase := .idle
        linkAnswers := s.linkAnswers.drop 3
        draws := s.draws + 3
        trace := s.trace ++ s.linkEvents a
        raised := s.raised ++ s.linkAdvisories a s.linkVerified.ok } := by
  cases a <;>
  simp [State.acquire, State.shiftByte_eq, State.selectAssert_eq, State.selectRelease_eq,
    State.raiseIfMismatch_eq, State.writeVerified, State.setAngle, State.linkByte,
    State.linkTimesOut, State.linkVerified, State.linkEvents, State.linkAdvisories,
    State.linkAnswer, List.getElem?_tail, List.drop_add_one_eq_tail_drop,
    Nat.add_assoc, Bool.or_assoc]

/-! ### The analog front end -/

/-- A converter code has `ADC_BITS` bits (R79). -/
theorem truncCode_toNat_lt (c : Config) (code : Word) :
    (truncCode c code).toNat < 2 ^ c.adcBits := by
  unfold truncCode Word.ofNat
  rw [BitVec.toNat_ofNat]
  exact (Nat.mod_le _ _).trans_lt (Nat.mod_lt _ (Nat.two_pow_pos _))

/-- The clamped difference is the truncated difference of naturals (R139). -/
theorem removeOffset_toNat (x o : Word) : (removeOffset x o).toNat = x.toNat - o.toNat := by
  unfold removeOffset
  split
  · rename_i h
    exact BitVec.toNat_sub_of_le (BitVec.le_of_lt h)
  · rename_i h
    simp only [BitVec.lt_def] at h
    simp
    omega

/-- The state in which the voltage conversion has been answered or never will be (R132). -/
def State.voltageWait (s : State) : State :=
  { s with adcMux := chVolt, adcRef := refVolt, afePhase := .vConv,
           convAnswers := s.convAnswers.tail, draws := s.draws + 1,
           trace := s.trace ++ [.select chVolt refVolt] }

/-- Everything `read_voltage()` does (R132). -/
theorem State.readVoltage_some {s : State} {code : Word} (h : s.convAnswer 0 = some code) :
    s.readVoltage = .done { s.voltageWait with
      afePhase := .idle
      chanV := { s.chanV with raw := scaleV s.cfg code }
      trace := s.trace ++ [.select chVolt refVolt, .convert code] } := by
  simp only [State.readVoltage]
  rw [State.adcConvert_some (by exact h)]
  simp [State.popConv, State.voltageWait, State.adcSelect, State.emit]

theorem State.readVoltage_none {s : State} (h : s.convAnswer 0 = none) :
    s.readVoltage = .hung s.voltageWait := by
  simp only [State.readVoltage]
  rw [State.adcConvert_none (by exact h)]
  simp [State.popConv, State.voltageWait, State.adcSelect, State.emit]

/-- The state in which the supply-sense conversion has been answered or never will be (R134). -/
def State.supplyWait (s : State) : State :=
  { s with adcMux := chSupply, adcRef := refLow, afePhase := .railConv,
           convAnswers := s.convAnswers.tail, draws := s.draws + 1,
           trace := s.trace ++ [.select chSupply refLow] }

/-- The state in which the current conversion has been answered or never will be, after the
supply-sense sample `codeS` (R134). -/
def State.currentWait (s : State) (codeS : Word) : State :=
  { s with rail := railEst s.cfg codeS, coeff := coeffOf s.cfg (railEst s.cfg codeS),
           adcMux := chCurr, adcRef := refRail, afePhase := .curConv,
           convAnswers := s.convAnswers.drop 2, draws := s.draws + 2,
           trace := s.trace ++ [.select chSupply refLow, .convert codeS, .select chCurr refRail] }

theorem State.readCurrent_none {s : State} (h : s.convAnswer 0 = none) :
    s.readCurrent = .hung s.supplyWait := by
  simp only [State.readCurrent]
  rw [State.adcConvert_none (by exact h)]
  simp [State.popConv, State.supplyWait, State.adcSelect, State.emit]

theorem State.readCurrent_some {s : State} {codeS : Word} (h : s.convAnswer 0 = some codeS) :
    s.readCurrent =
      State.readCurrentFrom
        { s.supplyWait with trace := s.trace ++ [.select chSupply refLow, .convert codeS] } codeS := by
  simp only [State.readCurrent]
  rw [State.adcConvert_some (by exact h)]
  simp [State.popConv, State.supplyWait, State.adcSelect, State.emit]

theorem State.readCurrent_some_none {s : State} {codeS : Word} (h : s.convAnswer 0 = some codeS)
    (h1 : s.convAnswer 1 = none) : s.readCurrent = .hung (s.currentWait codeS) := by
  rw [State.readCurrent_some h]
  simp only [State.readCurrentFrom]
  rw [State.adcConvert_none]
  · simp [State.popConv, State.supplyWait, State.currentWait, State.adcSelect, State.emit,
      List.drop_add_one_eq_tail_drop]
  · rw [← h1]
    exact s.convAnswer_shift _ 1 0 rfl (by simp [State.supplyWait, State.adcSelect, State.emit]) rfl

/-- Everything `read_current()` does when both conversions are answered (R134). -/
theorem State.readCurrent_some_some {s : State} {codeS codeI : Word}
    (h : s.convAnswer 0 = some codeS) (h1 : s.convAnswer 1 = some codeI) :
    s.readCurrent = .done { s.currentWait codeS with
      afePhase := .idle
      chanI := { s.chanI with
        raw := removeOffset (scaleI s.cfg codeI (coeffOf s.cfg (railEst s.cfg codeS))) s.cfg.iOffset }
      trace := s.trace ++
        [.select chSupply refLow, .convert codeS, .select chCurr refRail, .convert codeI] } := by
  rw [State.readCurrent_some h]
  simp only [State.readCurrentFrom]
  rw [State.adcConvert_some (code := codeI)]
  · simp [State.popConv, State.supplyWait, State.currentWait, State.adcSelect, State.emit,
      List.drop_add_one_eq_tail_drop]
  · rw [← h1]
    exact s.convAnswer_shift _ 1 0 rfl (by simp [State.supplyWait, State.adcSelect, State.emit]) rfl

/-- Taking the command does not change what the converter will answer. -/
@[simp] theorem State.take_convAnswer (s : State) (k : Nat) : s.take.convAnswer k = s.convAnswer k := rfl
@[simp] theorem State.take_linkByte (s : State) (k : Nat) : s.take.linkByte k = s.linkByte k := rfl
@[simp] theorem State.take_linkTimesOut (s : State) (k : Nat) :
    s.take.linkTimesOut k = s.linkTimesOut k := rfl
@[simp] theorem State.take_linkEvents (s : State) (a : Axis) : s.take.linkEvents a = s.linkEvents a := rfl
@[simp] theorem State.take_linkVerified (s : State) : s.take.linkVerified = s.linkVerified := rfl
@[simp] theorem State.take_linkAdvisories (s : State) (a : Axis) (ok : Bool) :
    s.take.linkAdvisories a ok = s.linkAdvisories a ok := rfl
@[simp] theorem State.take_switchAnswer (s : State) : s.take.switchAnswer = s.switchAnswer := rfl
@[simp] theorem State.take_chan (s : State) (c : Channel) : s.take.chan c = s.chan c := by
  cases c <;> rfl
@[simp] theorem State.take_angle (s : State) (a : Axis) : s.take.angle a = s.angle a := by
  cases a <;> rfl
@[simp] theorem State.complete_chan (s : State) (c : Channel) : s.complete.chan c = s.chan c := by
  cases c <;> rfl
@[simp] theorem State.complete_angle (s : State) (a : Axis) : s.complete.angle a = s.angle a := by
  cases a <;> rfl

/-! ### The filter -/

/-- Inside the buffer the filter runs (R150, R51). -/
theorem State.filterStep_of_lt {s : State} {c : Channel} (h : (s.chan c).fidx < s.cfg.filterN) :
    s.filterStep c = .next ((s.readChannel c).settle (fun t => t.average c)) := by
  simp [State.filterStep, h]

/-- Outside the buffer the machine stops: no such slot exists. -/
theorem State.filterStep_of_ge {s : State} {c : Channel} (h : s.cfg.filterN ≤ (s.chan c).fidx) :
    s.filterStep c = .fault (.slotOutOfRange c (s.chan c).fidx) := by
  simp [State.filterStep, Nat.not_lt.2 h]

/-- What the average does to a channel whose index is in range and whose buffer is canonical (R150):
one slot written, the index advanced, the mean recomputed, the raw result kept. -/
theorem AnalogChannel.average_spec {g : AnalogChannel} {n : Nat} (hw : Memory.wf n g.fbuf = true)
    (hi : g.fidx < n) :
    (g.average n).raw = g.raw ∧
    (∀ j, (g.average n).fbuf.read j = if j = g.fidx then g.raw else g.fbuf.read j) ∧
    (g.average n).fidx = (g.fidx + 1) % n ∧
    (g.average n).smooth.toNat = (g.average n).fbuf.sum n / n ∧
    Memory.wf n (g.average n).fbuf = true ∧ (g.average n).fidx < n := by
  refine ⟨rfl, fun j => Memory.read_write _ _ _ hw, rfl, ?_, Memory.wf_write hw hi,
    Nat.mod_lt _ (by omega)⟩
  exact Nat.mod_eq_of_lt (Memory.mean_lt _ n)

/-! ### The framer -/

/-- Everything `frame()` does (R169). -/
theorem State.frame_eq (s : State) :
    s.frame =
      { s with
        rWord := pack s.angleEl.angle s.angleAz.angle s.chanV.smooth s.chanI.smooth s.switchAnswer
        rCrc := crc8 (pack s.angleEl.angle s.angleAz.angle s.chanV.smooth s.chanI.smooth s.switchAnswer)
        switchAnswers := s.switchAnswers.tail
        draws := s.draws + 1
        trace := s.trace ++ [.sw s.switchAnswer, .tx (render s.cfg.hexCase
          (pack s.angleEl.angle s.angleAz.angle s.chanV.smooth s.chanI.smooth s.switchAnswer)
          (crc8 (pack s.angleEl.angle s.angleAz.angle s.chanV.smooth s.chanI.smooth
            s.switchAnswer)))] } := by
  simp [State.frame, State.swRead, State.txEmit, State.emit]

end Sys2Proof.Machine
end

