-- ==== Sys2Proof/Laws/Frames.lean ====
section
/-! SUPPORT. How to show that parts of the state are as before: from the plain fields of two states
to the frame predicates of Safety.lean and to the indexed register groups. -/

namespace Sys2Proof.Machine

theorem State.chan_congr {s t : State} (hv : t.chanV = s.chanV) (hi : t.chanI = s.chanI)
    (c : Channel) : t.chan c = s.chan c := by cases c <;> assumption

theorem State.angle_congr {s t : State} (he : t.angleEl = s.angleEl) (ha : t.angleAz = s.angleAz)
    (a : Axis) : t.angle a = s.angle a := by cases a <;> assumption

theorem State.sel_congr {s t : State} (he : t.selEl = s.selEl) (ha : t.selAz = s.selAz)
    (a : Axis) : t.sel a = s.sel a := by cases a <;> assumption

theorem State.SameAngles.of_fields {s t : State} (he : t.angleEl = s.angleEl)
    (ha : t.angleAz = s.angleAz) (hs : t.sr24 = s.sr24) : s.SameAngles t :=
  ⟨State.angle_congr he ha, hs⟩

theorem State.SameAnalog.of_fields {s t : State} (hv : t.chanV = s.chanV) (hi : t.chanI = s.chanI)
    (hr : t.rail = s.rail) (hc : t.coeff = s.coeff) (hm : t.adcMux = s.adcMux)
    (hf : t.adcRef = s.adcRef) (hp : t.afePhase = s.afePhase) : s.SameAnalog t := by
  have h := State.chan_congr hv hi
  exact ⟨fun c => by simp [h c], fun c j => by simp [State.slot, h c], hr, hc, hm, hf, hp⟩

theorem State.SameComm.of_eq {s t : State} (h : t.comm = s.comm) : s.SameComm t := by
  simp [State.SameComm, h]

theorem State.SameLink.of_fields {s t : State} (he : t.selEl = s.selEl) (ha : t.selAz = s.selAz)
    (hl : t.lnkPhase = s.lnkPhase) : s.SameLink t := ⟨State.sel_congr he ha, hl⟩

end Sys2Proof.Machine
end

