-- ==== Sys2Proof/Laws/Run.lean ====
section
/-! SUPPORT. Steps and runs: what a step does with the host's next action, and how a run of the
machine unfolds one step at a time. -/

namespace Sys2Proof.Machine

/-- A run of any machine whose first step answers `t` goes on from `t`. -/
theorem coreRun_succ_of_next (M : Host.Core) {s t : M.State} (k : Nat) (h : M.step s = .next t) :
    M.run (k + 1) s = M.run k t := by
  simp only [Host.Core.run, h]

/-- A run of this machine whose first step answers `t` goes on from `t`. -/
theorem run_succ_of_next {s t : State} (k : Nat) (h : step s = .next t) :
    Sys2Proof.core.run (k + 1) s = Sys2Proof.core.run k t :=
  coreRun_succ_of_next Sys2Proof.core k h

/-- A state that a step leaves as it is, every run leaves as it is. -/
theorem run_of_step_self {s : State} (h : step s = .next s) (k : Nat) :
    Sys2Proof.core.run k s = .next s := by
  induction k with
  | zero => rfl
  | succ k ih => rw [run_succ_of_next k h, ih]

/-- An idle core takes the host's next action (R11, R193). -/
theorem step_of_action {s : State} {a : HostAction} {rest : List HostAction}
    (hc : s.cfg.wellFormed = true) (hb : s.busy = false) (hq : s.hostQueue = a :: rest) :
    step s = State.hostAct { s with hostQueue := rest } a := by
  simp [step, State.hostStep, hc, hb, hq]

/-- A hung core takes nothing but a reset (R186, R201). -/
theorem step_of_hung {s : State} (hc : s.cfg.wellFormed = true) (hb : s.busy = true)
    (hq : s.hostQueue.head? ≠ some .reset) : step s = .next s := by
  unfold step State.hostStep
  cases h : s.hostQueue with
  | nil => simp [hc]
  | cons a rest =>
    have : a ≠ .reset := by rintro rfl; simp [h] at hq
    simp [hc, hb, this]

/-- A command byte that decodes to `i` runs `i`. -/
theorem hostAct_command {s : State} {b : Byte} {i : Instr} (h : decode b = .ok i) :
    s.hostAct (.command b) = exec i s := by
  simp [State.hostAct, State.runCommand, h]

/-- Everything `takeAnswers` does: it drops as many listed answers as the events took. -/
theorem State.takeAnswers_eq (s : State) (es : List Event) :
    s.takeAnswers es =
      { s with
        linkAnswers := s.linkAnswers.drop (countReads es)
        convAnswers := s.convAnswers.drop (countConverts es)
        switchAnswers := s.switchAnswers.drop (countSwitches es)
        draws := s.draws + countReads es + countConverts es + countSwitches es } := by
  induction es generalizing s with
  | nil => simp [State.takeAnswers, countReads, countConverts, countSwitches]
  | cons e es ih =>
    cases e <;>
    simp [State.takeAnswers, ih, State.popConv, countReads, countConverts, countSwitches,
      Nat.add_comm] <;> omega

/-- The command of axis `a`, as the shared operation. -/
theorem exec_acq (a : Axis) (s : State) :
    exec (acqInstr a) s = .next (s.take.acquire a).complete := by cases a <;> rfl

/-- The read of channel `c`, as the shared operation. -/
theorem exec_rd (c : Channel) (s : State) :
    exec (rdInstr c) s = .next ((s.take.readChannel c).settle id) := by cases c <;> rfl

/-- The filter call of channel `c`, as the shared operation. -/
theorem exec_flt (c : Channel) (s : State) : exec (fltInstr c) s = s.take.filterStep c := by
  cases c <;> rfl

end Sys2Proof.Machine
end

