-- ==== Sys2Proof/Laws/PerInstr.lean ====
section
/-! SUPPORT. Statements made of every instruction as syntax, one lemma per constructor: the family
`Encoding` says that the instruction is well formed, that its byte decodes to it, and that the byte's
fields are the instruction's (30_encoding.md R70, R71). -/

namespace Sys2Proof.Laws.Encoding

def Statement (i : Instr) : Prop :=
  i.wellFormed = true ∧ decode (encode i) = .ok i ∧ fieldsOf (encode i) = i.fields

theorem crc6 : Statement .crc6 := ⟨rfl, rfl, rfl⟩
theorem vfy6 : Statement .vfy6 := ⟨rfl, rfl, rfl⟩
theorem acqEl : Statement .acqEl := ⟨rfl, rfl, rfl⟩
theorem acqAz : Statement .acqAz := ⟨rfl, rfl, rfl⟩
theorem rdV : Statement .rdV := ⟨rfl, rfl, rfl⟩
theorem rdI : Statement .rdI := ⟨rfl, rfl, rfl⟩
theorem fltV : Statement .fltV := ⟨rfl, rfl, rfl⟩
theorem fltI : Statement .fltI := ⟨rfl, rfl, rfl⟩
theorem crc8 : Statement .crc8 := ⟨rfl, rfl, rfl⟩
theorem frame : Statement .frame := ⟨rfl, rfl, rfl⟩

end Sys2Proof.Laws.Encoding
end

