-- ==== Sys2Proof/Tests/Slice0.lean ====
section
/-! SUPPORT. Tests. Expected results are the spec's own: the opcode map of 30_encoding.md R71, the
worked examples of the operation rules and the vectors of 95_test_vectors.md (the section is named at
each test).  Then one witness for every statement that has hypotheses. -/

namespace Sys2Proof.Tests

open Sys2Proof Sys2Proof.Machine

set_option maxRecDepth 4000

/-- The state after reset with `CFG-EX`, with what the outside holds. -/
def bench (host : List HostAction) (link : List LinkAnswer) (conv : List ConvAnswer)
    (sw : List (BitVec 2)) : State :=
  { State.resetOf cfgEx 0 with
    hostQueue := host, linkAnswers := link, convAnswers := conv, switchAnswers := sw }

/-- Nothing held outside. -/
def quiet : State := bench [] [] [] []

/-- A field of the next state. -/
def after {α : Type} (o : Host.Outcome State Fault Refusal) (f : State → α) : Option α :=
  match o with
  | .next t => some (f t)
  | _ => none

/-- A byte received in time. -/
def rx (v : Byte) : LinkAnswer := ⟨v, false⟩

/-- A hung core: `RD V` whose conversion is never answered. -/
def hungBench (host : List HostAction) : State :=
  { bench host [] [] [] with busy := true, afePhase := .vConv }

/-! ### Well-formedness: an ill-formed term for each check -/

theorem test_wf_middle_bits : (fieldsOf 0x12).middleOk = false := by decide
theorem test_wf_opcode_low : (fieldsOf 0x00).opcodeOk = false := by decide
theorem test_wf_opcode_high : (fieldsOf 0x80).opcodeOk = false := by decide
theorem test_wf_selector : (fieldsOf 0x11).selectorOk = false := by decide
theorem test_wf_all_instrs : (fieldsOf 0x51).wellFormed = true ∧ Instr.fltI.wellFormed = true := by
  decide
theorem test_wf_example_config : cfgEx.wellFormed = true := by decide
theorem test_wf_adc_bits_zero : ({ cfgEx with adcBits := 0 } : Config).wellFormed = false := by decide
theorem test_wf_adc_bits_17 : ({ cfgEx with adcBits := 17 } : Config).adcBitsOk = false := by decide
theorem test_wf_filter_n_zero : ({ cfgEx with filterN := 0 } : Config).wellFormed = false := by decide
theorem test_wf_errcnt_bits_zero : ({ cfgEx with errcntBits := 0 } : Config).wellFormed = false := by
  decide
theorem test_wf_divisor_zero :
    ({ cfgEx with scaling := .linear ⟨1000, 0, 10240, 4096, 1, 10, 4096⟩ } : Config).wellFormed
      = false := by decide
theorem test_wf_product_overflow :
    ({ cfgEx with scaling := .linear ⟨2000000, 4000000, 10240, 4096, 1, 10, 4096⟩ } : Config).wellFormed
      = false := by decide
theorem test_wf_result_overflow :
    ({ cfgEx with scaling := .linear ⟨1000, 1, 10240, 4096, 1, 10, 4096⟩ } : Config).wellFormed
      = false := by decide
theorem test_ill_formed_config_is_refused :
    step { quiet with cfg := { cfgEx with filterN := 0 } } = .refused .illFormedConfiguration := by
  rfl

/-! ### Decoding: each command's word written out from R71 -/

theorem test_decode_crc6 : decode 0b00010000 = .ok .crc6 := by rfl
theorem test_decode_vfy6 : decode 0b00100000 = .ok .vfy6 := by rfl
theorem test_decode_acqEl : decode 0b00110000 = .ok .acqEl := by rfl
theorem test_decode_acqAz : decode 0b00110001 = .ok .acqAz := by rfl
theorem test_decode_rdV : decode 0b01000000 = .ok .rdV := by rfl
theorem test_decode_rdI : decode 0b01000001 = .ok .rdI := by rfl
theorem test_decode_fltV : decode 0b01010000 = .ok .fltV := by rfl
theorem test_decode_fltI : decode 0b01010001 = .ok .fltI := by rfl
theorem test_decode_crc8 : decode 0b01100000 = .ok .crc8 := by rfl
theorem test_decode_frame : decode 0b01110000 = .ok .frame := by rfl
/-- Section 8: the reserved bytes listed there. -/
theorem test_decode_reserved :
    ([0x00, 0x01, 0x0F, 0x11, 0x12, 0x21, 0x32, 0x3F, 0x42, 0x52, 0x61, 0x71, 0x80, 0xFF].all
      fun w => (decodeTableWord 8 w).isNone) = true := by decide
theorem test_decode_table_word : decodeTableWord 8 0x41 = some .rdI := by decide

/-! ### CRC-6 and CRC-8 (sections 3 and 7) -/

theorem test_crc6_vectors :
    after (exec .crc6 { quiet with din := 0x12345 }) State.rCrc = some 0x1D ∧
      crc6 0x15 0x10000 = 0x33 ∧ crc6 0x3F 0 = 0x0A := by decide
theorem test_crc6_ignores_high_din :
    after (exec .crc6 { quiet with din := 0xFFFFFFFFFFFC0000 }) State.rCrc = some 0x00 := by decide
theorem test_vfy6_accepts :
    after (exec .vfy6 { quiet with din := 0xABCDEF0000400035 }) (fun t => (t.rPay, t.rCrc, t.fOk))
      = some (0x10000, 0x35, true) := by decide
theorem test_vfy6_rejects :
    after (exec .vfy6 { quiet with din := 0xFFFFFF }) (fun t => (t.rPay, t.rCrc, t.fOk, t.sr24))
      = some (0x3FFFF, 0x0E, false, 0) := by decide
theorem test_crc8_three_bytes :
    after (exec .crc8 { quiet with din := 0x640322 }) State.rCrc = some 0x7C := by decide
/-- R164: no byte of 0 is processed, and a number's CRC-8 is not that of its fixed-width string. -/
theorem test_crc8_counts_significant_bytes :
    crc8 0 = 0xFF ∧ crc8Bytes 0 8 0xFF = 0xD4 ∧ crc8 0xFF = 0x00 ∧ crc8Bytes 0xFF 2 0xFF = 0xCA := by
  decide

/-! ### ACQ (section 4) -/

/-- A timed-out frame that passes the check, field code 3 stored as received. -/
theorem test_acqEl_timeout :
    after (exec .acqEl (bench [] [rx 0x40, ⟨0x43, true⟩, rx 0x35] [] []))
      (fun t => (t.angleEl, t.comm.warning, t.raised, t.selEl))
      = some (⟨9035, 3, false, false, true⟩, true, [.linkTimeout .el 1], true) := by decide
theorem test_acqEl_trace :
    after (exec .acqEl (bench [] [rx 0x40, rx 0x00, rx 0x35] [] [])) State.trace
      = some [.selLow .el, .send 0, .read 0x40 false, .send 0, .read 0 false, .send 0,
          .read 0x35 false, .selHigh .el] := by decide
/-- A mismatch: the reading is still surfaced. -/
theorem test_acqAz_mismatch :
    after (exec .acqAz (bench [] [rx 0xFF, rx 0xFF, rx 0xFF] [] []))
      (fun t => (t.angleAz, t.rCrc, t.raised, t.angleEl))
      = some (⟨35998, 3, true, true, false⟩, 0x0E, [.crc6Mismatch .az], ⟨0, 0, false, false, false⟩) := by
  decide
theorem test_acqAz_fields :
    after (exec .acqAz (bench [] [rx 0x48, rx 0xD1, rx 0x5D] [] []))
      (fun t => (t.angleAz, t.sr24)) = some (⟨10239, 1, false, true, true⟩, 0x48D15D) := by decide
theorem test_angle_scale_tie : angleScale 256 = 563 ∧ angleScale 768 = 1688 ∧ angleScale 255 = 560 := by
  decide

/-! ### RD (section 5) -/

theorem test_rdV_largest :
    after (exec .rdV (bench [] [] [.sample 4095] []))
      (fun t => (t.chanV.raw, t.adcMux, t.adcRef, t.busy)) = some (999, 0, 0, false) := by decide
theorem test_rdV_hang :
    after (exec .rdV (bench [] [] [.never] [])) (fun t => (t.chanV.raw, t.afePhase, t.busy, t.trace))
      = some (0, .vConv, true, [.select 0 0]) := by decide
theorem test_rdI_clamp :
    after (exec .rdI (bench [] [] [.sample 2000, .sample 1000] []))
      (fun t => (t.chanI.raw, t.rail, t.coeff, t.adcMux, t.adcRef))
      = some (0, 5000, 500, 1, 2) := by decide
theorem test_rdI_second_hang :
    after (exec .rdI (bench [] [] [.sample 2000, .never] []))
      (fun t => (t.rail, t.coeff, t.chanI.raw, t.afePhase, t.busy))
      = some (5000, 500, 0, .curConv, true) := by decide

/-! ### FLT (section 6) -/

/-- Call 6 of the table: the oldest slot is overwritten. -/
theorem test_fltV_overwrites_oldest :
    after (exec .fltV { bench [] [] [.sample 0] [] with
        chanV := ⟨500, 500, 1, [(0, 500), (1, 500), (2, 500), (3, 500)]⟩ })
      State.chanV = some ⟨0, 375, 2, [(0, 500), (2, 500), (3, 500)]⟩ := by decide
/-- Call 4 of the table: the index wraps. -/
theorem test_fltV_index_wraps :
    after (exec .fltV { bench [] [] [.sample 2048] [] with
        chanV := ⟨500, 375, 3, [(0, 500), (1, 500), (2, 500)]⟩ })
      (fun t => (t.chanV.fidx, t.chanV.smooth)) = some (0, 500) := by decide
theorem test_fltI_first :
    after (exec .fltI (bench [] [] [.sample 2000, .sample 3000] []))
      (fun t => (t.chanI, t.chanV.fidx)) = some (⟨116, 29, 1, [(0, 116)]⟩, 0) := by decide
/-- P4, line 6: the second conversion of `FLT I` never completes. -/
theorem test_fltI_hang :
    after (exec .fltI { bench [] [] [.sample 4095, .never] [] with chanI := ⟨116, 0, 1, []⟩ })
      (fun t => (t.rail, t.coeff, t.chanI)) = some (10237, 1023, ⟨116, 0, 1, []⟩) := by decide

/-! ### FRAME (section 7) -/

theorem test_frame_truncates_smooth :
    after (exec .frame { bench [] [] [] [2] with
        angleEl := ⟨9000, 0, false, false, false⟩
        chanV := ⟨0, 4196, 0, []⟩, chanI := ⟨0, 50, 0, []⟩ })
      (fun t => (t.rWord, t.rCrc)) = some (0x0232800000640322, 0xF6) := by decide
theorem test_frame_bytes :
    after (exec .frame { bench [] [] [] [3] with
        angleEl := ⟨35998, 0, false, false, false⟩, angleAz := ⟨35998, 0, false, false, false⟩
        chanV := ⟨0, 0xFFF, 0, []⟩, chanI := ⟨0, 0xFFF, 0, []⟩ })
      State.trace = some [.sw 3, .tx [0x3C, 0x38, 0x63, 0x39, 0x65, 0x38, 0x63, 0x39, 0x65, 0x66, 0x66,
        0x66, 0x66, 0x66, 0x66, 0x33, 0x38, 0x37, 0x3E, 0x0D, 0x0A]] := by decide

/-! ### The host's side -/

/-- P3: `.clrwarn`. -/
theorem test_clrwarn :
    after (step { bench [.clearWarning] [] [] [] with comm := ⟨false, 0, true⟩ }) State.comm
      = some ⟨false, 0, false⟩ := by decide
/-- R201: reset is the way out of a hang. -/
theorem test_reset_leaves_hang :
    after (step (hungBench [.reset])) (fun t => (t.busy, t.afePhase)) = some (false, .idle) := by decide
/-- R201: a reset after three events of `ACQ EL`: the first byte was sent and read. -/
theorem test_reset_during_acquire :
    after (step (bench [.commandThenReset 0x30 3] [rx 0x40, rx 0x00, rx 0x35] [] []))
      (fun t => (t.trace, t.sr24, t.selEl, t.linkAnswers))
      = some ([.selLow .el, .send 0, .read 0x40 false], 0, true, [rx 0x00, rx 0x35]) := by decide
/-- R73: selector 1 on an operation without selector. -/
theorem test_reserved_is_refused :
    step (bench [.command 0x61] [] [] []) =
      .refused (.reservedCommand 0x61 .selectorWithoutOperation) := by rfl
/-- R74: an operand is written to `DIN` before the command; `CYCLE` is five commands in order. -/
theorem test_assembler_lines :
    (AsmLine.vfy6 0x400035).actions = [.writeDin 0x400035, .command 0x20] ∧
    AsmLine.cycle.actions =
      [.command 0x30, .command 0x31, .command 0x50, .command 0x51, .command 0x70] := by decide
theorem test_labels : errorLabel .linkTimeout = 1 ∧ errorLabel .crc6Mismatch = 2 ∧
    errorLabel .converterHang = 3 := by decide
theorem test_phase_codes : LnkPhase.desel.code = 5 ∧ AfePhase.curConv.code = 3 := by decide

/-! ### Witnesses: states that meet the hypotheses of each statement -/

/-- Every bench state meets the invariant. -/
theorem bench_inv (host : List HostAction) (link : List LinkAnswer) (conv : List ConvAnswer)
    (sw : List (BitVec 2)) : (bench host link conv sw).Inv where
  cfgOk := test_wf_example_config
  fidxOk c := by cases c <;> exact (by decide : 0 < 4)
  bufferOk c := by cases c <;> exact (by decide : Memory.wf 4 [] = true)
  meanOk c := by cases c <;> exact (by decide : (0#16).toNat = Memory.sum [] 4 / 4)
  selOk a := by cases a <;> rfl
  lnkOk := rfl
  busyOk := ⟨fun h => (Bool.false_ne_true h).elim, fun h => (h rfl).elim⟩
  errcntOk := (by decide : 0 < 2 ^ 8)
  angleOk a := by cases a <;> exact (by decide : (0#16).toNat ≤ 35998)
  wordOk := (by decide : (0#64).extractLsb' 60 4 = 0 ∧ (0#64).extractLsb' 2 2 = 0)
  rawIOk := (by decide : (0#16).toNat ≤ 65535 - (250#16).toNat)

theorem witness_ReservedBytesAreRefused_opcode0 :
    quiet.cfg.wellFormed = true ∧ (bench [.command 0x0F] [] [] []).busy = false ∧
      (0x0F : Byte).toNat / 16 = 0 := by decide
theorem witness_ReservedBytesAreRefused_opcode8 :
    (bench [.command 0x80] [] [] []).hostQueue = .command 0x80 :: [] ∧
      8 ≤ (0x80 : Byte).toNat / 16 := by decide
theorem witness_ReservedBytesAreRefused_middle :
    (bench [.command 0x7E] [] [] []).hostQueue = .command 0x7E :: [] ∧
      (0x7E : Byte).extractLsb' 1 3 ≠ 0 := by decide
theorem witness_ReservedBytesAreRefused_selector :
    (bench [.command 0x71] [] [] []).hostQueue = .command 0x71 :: [] ∧
      (0x71 : Byte) ∈ ([0x11, 0x21, 0x61, 0x71] : List Byte) := by decide
theorem witness_DecodeAndEncodeAgree :
    Instr.acqAz.wellFormed = true ∧ decode 0x31 = .ok .acqAz := ⟨rfl, rfl⟩
theorem witness_StepRunsTheDecodedCommand :
    let s := bench [.command 0x51] [] [] []
    s.cfg.wellFormed = true ∧ s.busy = false ∧ s.hostQueue = .command 0x51 :: [] ∧
      decode 0x51 = .ok .fltI := ⟨test_wf_example_config, rfl, rfl, rfl⟩
theorem witness_WaitingAndHungCoresStay_idle :
    quiet.cfg.wellFormed = true ∧ quiet.hostQueue = [] := ⟨test_wf_example_config, rfl⟩
theorem witness_WaitingAndHungCoresStay_hung :
    let s := hungBench [.command 0x70]
    s.cfg.wellFormed = true ∧ s.busy = true ∧ s.hostQueue = .command 0x70 :: [] ∧
      HostAction.command 0x70 ≠ .reset := by decide
theorem witness_WaitingAndHungCoresStay_reset :
    let s := hungBench [.reset]
    s.cfg.wellFormed = true ∧ s.busy = true ∧ s.hostQueue = .reset :: [] := by decide
theorem witness_WaitingAndHungCoresStay_reset_idle :
    let s := bench [.reset, .command 0x70] [rx 1] [.sample 2] [3]
    s.cfg.wellFormed = true ∧ s.busy = false ∧ s.hostQueue = .reset :: [.command 0x70] := by decide
theorem witness_HostWritesChangeOneRegister :
    let s := bench [.writeErrcnt 300] [] [] []
    s.cfg.wellFormed = true ∧ s.busy = false ∧ s.hostQueue = .writeErrcnt 300 :: [] ∧
      (bench [.writeDin 7] [] [] []).hostQueue = .writeDin 7 :: [] ∧
      (bench [.writeError true] [] [] []).hostQueue = .writeError true :: [] ∧
      (bench [.clearWarning] [] [] []).hostQueue = .clearWarning :: [] := by decide
theorem witness_FirstFrameAfterReset : cfgEx.hexCase = .lower := rfl
theorem witness_ResetMeetsTheBoundaryConditions : cfgEx.wellFormed = true := by decide
theorem witness_StepKeepsTheBoundaryConditions :
    (bench [.command 0x30] [rx 0x40, rx 0x00, rx 0x35] [] []).Inv ∧
      ∃ t, step (bench [.command 0x30] [rx 0x40, rx 0x00, rx 0x35] [] []) = .next t ∧
        t.sr24 = 0x400035 := ⟨bench_inv _ _ _ _, _, rfl, by decide⟩
theorem witness_BufferAccessesNeverFault :
    Memory.wf 4 [(1, 7)] = true ∧ (bench [.command 0x50] [] [.sample 1] []).Inv :=
  ⟨by decide, bench_inv _ _ _ _⟩
theorem witness_CommandsKeepOperandsAndEvents :
    ∃ t, exec .crc8 quiet = .next t ∧ step (bench [.writeDin 5] [] [] []) = .next
      { quiet with din := 5 } := ⟨_, rfl, rfl⟩
theorem witness_CommandsOnlySetTheWarning :
    let s := bench [] [⟨0, true⟩, rx 0, rx 0] [] []
    ∃ t, exec .acqEl s = .next t ∧ t.comm.warning ≠ s.comm.warning := ⟨_, rfl, by decide⟩
theorem witness_CommandsOnlySetTheWarning_sticky :
    let s := { bench [] [rx 0, rx 0, rx 0] [] [] with comm := ⟨true, 9, true⟩ }
    ∃ t, exec .acqEl s = .next t ∧ s.comm.warning = true ∧ t.comm.errcnt = 9 := ⟨_, rfl, rfl, by decide⟩
theorem witness_OnlyTheNamedCommandsWrite :
    let s := bench [] [] [.sample 2000, .sample 3000] []
    ∃ t, exec .fltI s = .next t ∧ t.chanI.raw ≠ s.chanI.raw ∧ t.slot .i 0 ≠ s.slot .i 0 ∧
      t.rail ≠ s.rail := ⟨_, rfl, by decide⟩
theorem witness_OnlyTheNamedCommandsWrite_link :
    let s := bench [] [rx 0x40, rx 0x00, rx 0x35] [] []
    ∃ t, exec .acqEl s = .next t ∧ t.angleEl ≠ s.angleEl ∧ t.sr24 ≠ s.sr24 ∧ t.rPay ≠ s.rPay ∧
      t.rCrc ≠ s.rCrc := ⟨_, rfl, by decide⟩
theorem witness_OnlyTheNamedCommandsWrite_frame :
    let s := bench [] [] [] [3]
    ∃ t, exec .frame s = .next t ∧ t.rWord ≠ s.rWord := ⟨_, rfl, by decide⟩
/-- From a state that no run reaches: a line low, the link out of its idle phase. -/
theorem witness_OnlyTheNamedCommandsWrite_lines :
    let s := { bench [] [rx 1, ⟨2, true⟩, rx 3] [] [] with selAz := false, lnkPhase := .b1 }
    ∃ t, exec .acqAz s = .next t ∧ t.sel .az ≠ s.sel .az ∧ t.lnkPhase ≠ s.lnkPhase ∧
      t.comm ≠ s.comm := ⟨_, rfl, by decide⟩
theorem witness_OnlyTheNamedCommandsWrite_phase :
    let s := bench [] [] [.never] []
    ∃ t, exec .rdV s = .next t ∧ t.afePhase ≠ s.afePhase := ⟨_, rfl, by decide⟩
theorem witness_SelectLinesNeverOverlap :
    let s := bench [] [rx 1, rx 2, rx 3] [] []
    ∃ t, exec .acqAz s = .next t ∧ selectLines none s.trace = some none ∧
      selectLines none t.trace = some none := ⟨_, rfl, rfl, by decide⟩
theorem witness_OnlyConversionsCanHang : (bench [] [] [.never] []).Inv := bench_inv _ _ _ _
theorem witness_UnansweredConversionHangsForEver_first :
    let s := bench [] [] [.never] []
    (s.chan .i).fidx < s.cfg.filterN ∧ s.convAnswer 0 = none ∧ s.hostQueue.head? ≠ some .reset ∧
      s.cfg.wellFormed = true := by decide
theorem witness_UnansweredConversionHangsForEver_second :
    let s := bench [.command 0x70] [] [.sample 2000, .never] []
    (s.chan .i).fidx < s.cfg.filterN ∧ ¬ s.conversionsAnswered .i ∧
      s.hostQueue.head? ≠ some .reset ∧ s.cfg.wellFormed = true :=
  ⟨by decide, fun h => absurd (h 1 (by decide)) (by decide), by decide, by decide⟩
theorem witness_ResetDuringACommandAbandonsIt :
    let s := bench [.commandThenReset 0x30 3] [rx 0x40, rx 0x00, rx 0x35] [] []
    s.Inv ∧ s.busy = false ∧ s.hostQueue = .commandThenReset 0x30 3 :: [] ∧
      decode 0x30 = .ok .acqEl := ⟨bench_inv _ _ _ _, rfl, rfl, rfl⟩
/-- Before any event: nothing is emitted and no answer is taken. -/
theorem witness_ResetDuringACommandAbandonsIt_first :
    let s := bench [.commandThenReset 0x41 0] [] [.sample 2000, .sample 3000] []
    s.Inv ∧ s.busy = false ∧ s.hostQueue = .commandThenReset 0x41 0 :: [] ∧
      decode 0x41 = .ok .rdI ∧
      after (step s) (fun u => (u.trace, u.convAnswers)) = some ([], [.sample 2000, .sample 3000]) :=
  ⟨bench_inv _ _ _ _, rfl, rfl, rfl, by decide⟩
/-- Between the two conversions of `RD I`, of whose four events two happened. -/
theorem witness_ResetDuringACommandAbandonsIt_between :
    let s := bench [.commandThenReset 0x41 2] [] [.sample 2000, .sample 3000] []
    s.Inv ∧ s.busy = false ∧ s.hostQueue = .commandThenReset 0x41 2 :: [] ∧
      decode 0x41 = .ok .rdI ∧
      after (step s) State.convAnswers = some [.sample 3000] :=
  ⟨bench_inv _ _ _ _, rfl, rfl, rfl, by decide⟩
/-- Past the last event of a command that completes. -/
theorem witness_ResetDuringACommandAbandonsIt_past :
    let s := bench [.commandThenReset 0x40 5] [] [.sample 2048, .sample 7] []
    s.Inv ∧ s.busy = false ∧ s.hostQueue = .commandThenReset 0x40 5 :: [] ∧
      decode 0x40 = .ok .rdV ∧
      after (exec .rdV s) (fun t => (t.trace.length, t.busy)) = some (2, false) ∧
      after (step s) State.convAnswers = some [.sample 7] :=
  ⟨bench_inv _ _ _ _, rfl, rfl, rfl, by decide, by decide⟩
/-- After all three events of a command that hangs on its second conversion. -/
theorem witness_ResetDuringACommandAbandonsIt_hung :
    let s := bench [.commandThenReset 0x51 3] [] [.sample 2000, .never, .sample 7] []
    s.Inv ∧ s.busy = false ∧ s.hostQueue = .commandThenReset 0x51 3 :: [] ∧
      decode 0x51 = .ok .fltI ∧
      after (exec .fltI s) (fun t => (t.trace.length, t.busy)) = some (3, true) ∧
      after (step s) State.convAnswers = some [.sample 7] :=
  ⟨bench_inv _ _ _ _, rfl, rfl, rfl, by decide, by decide⟩
theorem witness_NbytesIsTheLeastLength : (0x100 : BitVec 64) ≠ 0 ∧
    (0x100 : BitVec 64).toNat < 2 ^ (8 * 2) ∧ nbytes 0x100 ≤ 7 := by decide
theorem witness_OneFlippedBitIsDetected : 23 < 24 ∧
    (verifyAndStrip 0 (0x400035 ^^^ (1#24 <<< 23))).ok = false := by decide
theorem witness_ChecksumCommandsFrame :
    ∃ t, exec .vfy6 { quiet with din := 0x400035 } = .next t ∧ t.fOk = true := ⟨_, rfl, by decide⟩
theorem witness_AcquireWorkedExamples_el :
    let s := bench [] [⟨0x40, false⟩, ⟨0x00, false⟩, ⟨0x35, false⟩] [] []
    s.cfg.crc6Init = 0 ∧ s.linkAnswers = [⟨0x40, false⟩, ⟨0x00, false⟩, ⟨0x35, false⟩] := ⟨rfl, rfl⟩
theorem witness_AcquireWorkedExamples_az :
    let s := bench [] [⟨0xFF, false⟩, ⟨0xFE, false⟩, ⟨0xC2, false⟩] [] []
    s.cfg.crc6Init = 0 ∧ s.linkAnswers = [⟨0xFF, false⟩, ⟨0xFE, false⟩, ⟨0xC2, false⟩] := ⟨rfl, rfl⟩
theorem witness_AcquireFrame :
    ∃ t, exec (acqInstr .az) (bench [] [rx 1, rx 2, rx 3] [] []) = .next t ∧ Axis.el ≠ Axis.az :=
  ⟨_, rfl, by decide⟩
theorem witness_TimeoutsDoNotChangeTheReading :
    3 ≤ [rx 1, rx 2, rx 3].length ∧
      [rx 1, rx 2, rx 3].map LinkAnswer.value
        = ([⟨1, true⟩, ⟨2, false⟩, ⟨3, true⟩] : List LinkAnswer).map LinkAnswer.value := by decide
theorem witness_AdvisoryEventsInOrder :
    ∃ t, (∀ a, Instr.vfy6 ≠ acqInstr a) ∧ exec .vfy6 quiet = .next t ∧
      (bench [] [rx 0, rx 0, ⟨0, true⟩] [] []).linkTimesOut 2 = true :=
  ⟨_, fun a => by cases a <;> decide, rfl, rfl⟩
theorem witness_AngleScaleIsStrictlyIncreasing :
    (16382 : BitVec 14).toNat + 1 = (16383 : BitVec 14).toNat := by decide
theorem witness_ReadVoltageCommand :
    (bench [] [] [.sample 2048] []).convAnswer 0 = some 2048 ∧
      (bench [] [] [.never] []).convAnswer 0 = none ∧
      (∃ k, cfgEx.scaling = .linear k) ∧ (4095 : Word).toNat ≤ cfgEx.maxCode :=
  ⟨rfl, rfl, ⟨_, rfl⟩, by decide⟩
theorem witness_ReadCurrentCommand :
    (bench [] [] [.sample 2000, .sample 3000] []).convAnswer 0 = some 2000 ∧
      (bench [] [] [.sample 2000, .sample 3000] []).convAnswer 1 = some 3000 ∧
      (bench [] [] [.sample 2000, .never] []).convAnswer 0 = some 2000 ∧
      (bench [] [] [.sample 2000, .never] []).convAnswer 1 = none ∧
      (bench [] [] [.never] []).convAnswer 0 = none := ⟨rfl, rfl, rfl, rfl, rfl⟩
theorem witness_ReadFrame :
    ∃ t, exec (rdInstr .v) (bench [] [] [.sample 2048] []) = .next t ∧ t.chanV.raw = 500 :=
  ⟨_, rfl, by decide⟩
theorem witness_LinearFormsNeverOverflow :
    cfgEx.wellFormed = true ∧ (∃ k, cfgEx.scaling = .linear k) ∧
      (4095 : Word).toNat < 2 ^ cfgEx.adcBits := ⟨by decide, ⟨_, rfl⟩, by decide⟩
theorem witness_OffsetClampsAtZero :
    let s := bench [] [] [.sample 2000, .sample 2056] []
    s.convAnswer 0 = some 2000 ∧ s.convAnswer 1 = some 2056 ∧ s.cfg.wellFormed = true ∧
      scaleI cfgEx 2056 500 = cfgEx.iOffset := by decide
/-- A listed word of more bits brings a code of `ADC_BITS` bits. -/
theorem witness_OffsetClampsAtZero_wide :
    (bench [] [] [.sample 0xFFFF] []).convAnswer 0 = some 4095 := by decide
theorem witness_ReadingsDoNotDecrease :
    cfgEx.wellFormed = true ∧ (∃ k, cfgEx.scaling = .linear k) ∧
      (0 : Word).toNat ≤ (4095 : Word).toNat ∧ (4095 : Word).toNat ≤ cfgEx.maxCode :=
  ⟨by decide, ⟨_, rfl⟩, by decide, by decide⟩
theorem witness_ReadDependsOnAnswersAlone :
    let s := bench [] [] [.sample 2000, .sample 3000] []
    let u := { s with rail := 9, coeff := 9, busy := true }
    s.cfg = u.cfg ∧ (∀ k < conversionsOf .i, (s.convAnswer k).isSome = true) ∧
      ∀ k < conversionsOf .i, s.convAnswer k = u.convAnswer k := ⟨rfl, by decide, by decide⟩
theorem witness_FilterStepAveragesTheBuffer :
    let s := { bench [] [] [.sample 2000, .sample 3000] [] with chanI := ⟨0, 0, 3, [(0, 9)]⟩ }
    (s.chan .i).fidx < s.cfg.filterN ∧ Memory.wf s.cfg.filterN (s.chan .i).fbuf = true ∧
      ∀ k < conversionsOf .i, (s.convAnswer k).isSome = true := ⟨by decide, by decide, by decide⟩
theorem witness_FilterStepAveragesTheBuffer_hung :
    let s := bench [] [] [.sample 2000, .never] []
    (s.chan .i).fidx < s.cfg.filterN ∧ Memory.wf s.cfg.filterN (s.chan .i).fbuf = true ∧
      ¬ s.conversionsAnswered .i :=
  ⟨by decide, by decide, fun h => absurd (h 1 (by decide)) (by decide)⟩
theorem witness_FilterFrame :
    ∃ t, exec (fltInstr .v) (bench [] [] [.sample 2048] []) = .next t ∧ t.chanV.smooth = 125 :=
  ⟨_, rfl, by decide⟩
theorem witness_FilterStopsOnlyOutsideTheBuffer :
    let s := { quiet with chanV := ⟨0, 0, 4, []⟩ }
    s.cfg.filterN ≤ (s.chan .v).fidx ∧ (s.chan .i).fidx < s.cfg.filterN := by decide
theorem witness_RunningSumIsTheSum : Memory.wf 4 [(0, 500), (3, 7)] = true ∧ 3 < 4 := by decide
theorem witness_WarmUpAveragesOverAllSlots :
    cfgEx.wellFormed = true ∧ ([(1, 0), (2, 0), (3, 0), (5, 0)] : List (Word × Word)).length ≤ cfgEx.filterN := by
  decide
theorem witness_IdenticalSamplesSettle :
    let s := bench (List.replicate 4 (.command 0x51)) []
      ((List.replicate 4 [.sample 2000, .sample 3000]).flatten) []
    s.Inv ∧ s.busy = false ∧
      s.hostQueue = List.replicate s.cfg.filterN (.command (encode (fltInstr .i))) ∧
      s.convAnswers = (List.replicate s.cfg.filterN (readAnswers .i (2000, 3000))).flatten :=
  ⟨bench_inv _ _ _ _, rfl, rfl, rfl⟩
theorem witness_ReceiverRecoversTheWord :
    (0x0FFFFFFFFFFFFFFF : BitVec 64).toNat < 2 ^ 60 ∧ (0x92 : Byte) ≠ crc8 0x0FFFFFFFFFFFFFFF := by decide
theorem witness_FrameFrame : ∃ t, exec .frame quiet = .next t := ⟨_, rfl⟩
theorem witness_FrameReadsNoFlag :
    let s := bench [] [] [] [2]
    let u := { s with comm := ⟨true, 3, true⟩, fOk := true, angleEl := ⟨0, 2, true, true, true⟩ }
    s.cfg.hexCase = u.cfg.hexCase ∧ (∀ a, (s.angle a).angle = (u.angle a).angle) ∧
      (∀ c, (s.chan c).smooth = (u.chan c).smooth) ∧ s.switchAnswer = u.switchAnswer :=
  ⟨rfl, fun a => by cases a <;> rfl, fun c => by cases c <;> rfl, rfl⟩
theorem witness_AcquisitionsAndFiltersCommute :
    let s := bench [] [rx 1, rx 2, rx 3] [.sample 2000, .sample 3000] []
    3 ≤ s.linkAnswers.length ∧ 2 ≤ s.convAnswers.length ∧ (s.chan .i).fidx < s.cfg.filterN ∧
      ∀ k < conversionsOf .i, (s.convAnswer k).isSome = true :=
  ⟨by decide, by decide, by decide, by decide⟩

end Sys2Proof.Tests
end

section
/-! Proofs of the family 20_memory.md: where a fault of a step can come from, and that the
invariant rules it out (R51). -/

namespace Sys2Proof.Machine

/-- A filter call faults only on an index outside the buffer. -/
theorem State.filterStep_fault {s : State} {c : Channel} {r : Fault}
    (h : s.filterStep c = .fault r) :
    s.cfg.filterN ≤ (s.chan c).fidx ∧ r = .slotOutOfRange c (s.chan c).fidx := by
  rcases Nat.lt_or_ge (s.chan c).fidx s.cfg.filterN with hlt | hge
  · rw [State.filterStep_of_lt hlt] at h
    cases h
  · rw [State.filterStep_of_ge hge] at h
    cases h
    exact ⟨hge, rfl⟩

/-- The only commands that fault are the filter calls, on an index outside their buffer. -/
theorem exec_fault {i : Instr} {s : State} {r : Fault} (h : exec i s = .fault r) :
    ∃ c, i = fltInstr c ∧ s.cfg.filterN ≤ (s.chan c).fidx ∧
      r = .slotOutOfRange c (s.chan c).fidx := by
  have flt (c : Channel) (hc : s.take.filterStep c = .fault r) :
      s.cfg.filterN ≤ (s.chan c).fidx ∧ r = .slotOutOfRange c (s.chan c).fidx := by
    simpa using State.filterStep_fault hc
  cases i with
  | fltV => exact ⟨.v, rfl, flt .v h⟩
  | fltI => exact ⟨.i, rfl, flt .i h⟩
  | crc6 | vfy6 | acqEl | acqAz | rdV | rdI | crc8 | frame => cases h

/-- A presented byte faults only through the command it decodes to: a reserved byte is refused. -/
theorem State.runCommand_fault {s : State} {b : Byte} {r : Fault}
    (h : s.runCommand b = .fault r) : ∃ i, decode b = .ok i ∧ exec i s = .fault r := by
  unfold State.runCommand at h
  split at h
  · exact ⟨_, ‹_›, h⟩
  · cases h

/-- A command under a reset faults only where the command alone does. -/
theorem State.runCommandThenReset_fault {s : State} {b : Byte} {k : Nat} {r : Fault}
    (h : s.runCommandThenReset b k = .fault r) : s.runCommand b = .fault r := by
  unfold State.runCommandThenReset at h
  split at h
  · cases h
  · cases h; assumption
  · cases h

/-- Of the host's actions only the two that present a command can fault. -/
theorem State.hostAct_fault {s : State} {a : HostAction} {r : Fault}
    (h : s.hostAct a = .fault r) : ∃ i, exec i s = .fault r := by
  have cmd {b : Byte} (hb : s.runCommand b = .fault r) : ∃ i, exec i s = .fault r :=
    (State.runCommand_fault hb).imp fun _ hi => hi.2
  cases a with
  | command b => exact cmd h
  | commandThenReset b k => exact cmd (State.runCommandThenReset_fault h)
  | writeDin | writeError | writeErrcnt | clearWarning | reset => cases h

/-- A step faults only by running a command that faults on the state with that action taken. -/
theorem step_fault {s : State} {r : Fault} (h : step s = .fault r) :
    ∃ i rest, exec i { s with hostQueue := rest } = .fault r := by
  unfold step State.hostStep at h
  split at h
  · split at h
    · cases h
    · split at h
      · split at h <;> cases h
      · exact (State.hostAct_fault h).imp fun _ hi => ⟨_, hi⟩
  · cases h

/-- A step that faults names a slot outside its buffer. -/
theorem filterN_le_fidx_of_step_fault {s : State} {r : Fault} (h : step s = .fault r) :
    ∃ c, s.cfg.filterN ≤ (s.chan c).fidx := by
  obtain ⟨i, rest, hi⟩ := step_fault h
  obtain ⟨c, -, hge, -⟩ := exec_fault hi
  exact ⟨c, by cases c <;> exact hge⟩

/-- Every slot of either buffer reads 0 at reset (R51, R200). -/
@[simp] theorem State.resetOf_slot (cfg : Config) (n : Nat) (c : Channel) (j : Nat) :
    (State.resetOf cfg n).slot c j = 0 := by
  cases c <;> exact Memory.read_nil j

/-- Settles O11: reads after writes by `Memory.read_write`; a faulting step would name a slot
outside its buffer, and the invariant keeps every index inside. -/
theorem bufferAccessesNeverFault : Obligations.BufferAccessesNeverFault := by
  refine ⟨fun n m i j v hm => Memory.read_write i j v hm, State.resetOf_slot, ?_⟩
  intro s r hinv hstep
  obtain ⟨c, hge⟩ := filterN_le_fidx_of_step_fault hstep
  exact Nat.not_lt.2 hge (hinv.fidxOk c)

end Sys2Proof.Machine
end

section
/-! Proofs of the family 30_encoding.md: the decoder accepts exactly the ten encodings (R70, R71,
R73), and the telemetry frame byte by byte (R82, R83). -/

/-! ### Command bytes -/

namespace Sys2Proof

/-- Every instruction meets the encoding statement of `Laws.Encoding`. -/
theorem encodingStatement (i : Instr) : Laws.Encoding.Statement i := by
  cases i with
  | crc6 => exact Laws.Encoding.crc6
  | vfy6 => exact Laws.Encoding.vfy6
  | acqEl => exact Laws.Encoding.acqEl
  | acqAz => exact Laws.Encoding.acqAz
  | rdV => exact Laws.Encoding.rdV
  | rdI => exact Laws.Encoding.rdI
  | fltV => exact Laws.Encoding.fltV
  | fltI => exact Laws.Encoding.fltI
  | crc8 => exact Laws.Encoding.crc8
  | frame => exact Laws.Encoding.frame

@[simp] theorem decode_encode (i : Instr) : decode (encode i) = .ok i := by
  obtain ⟨-, hdecode, -⟩ := encodingStatement i
  exact hdecode

/-- A byte is the concatenation of its three fields (R70). -/
@[simp] theorem byteOfFields_fieldsOf (b : Byte) : byteOfFields (fieldsOf b) = b := by
  have hlow : b.extractLsb' 1 3 ++ b.extractLsb' 0 1 = b.extractLsb' 0 4 :=
    BitVec.extractLsb'_append_extractLsb'_eq_extractLsb' rfl
  have hall : b.extractLsb' 4 4 ++ b.extractLsb' 0 4 = b.extractLsb' 0 8 :=
    BitVec.extractLsb'_append_extractLsb'_eq_extractLsb' rfl
  calc byteOfFields (fieldsOf b)
      = b.extractLsb' 4 4 ++ (b.extractLsb' 1 3 ++ b.extractLsb' 0 1) := BitVec.append_assoc ..
    _ = b := by rw [hlow, hall, BitVec.extractLsb'_eq_self]

/-- The opcode map gives a command only to its own opcode and selector (R71). -/
theorem opcode_selector_of_instrOfFields {f : CommandFields} {i : Instr}
    (h : instrOfFields f = .ok i) : f.opc = i.opcode ∧ f.s = i.selector := by
  unfold instrOfFields at h
  split at h
  case h_11 => split at h <;> cases h
  all_goals
    cases h
    exact ⟨BitVec.eq_of_toNat_eq ‹f.opc.toNat = _›, BitVec.eq_of_toNat_eq ‹f.s.toNat = _›⟩

/-- A byte that decodes to a command has the command's fields. -/
theorem fieldsOf_of_decode {b : Byte} {i : Instr} (h : decode b = .ok i) :
    fieldsOf b = i.fields := by
  simp only [decode] at h
  split at h
  · next hmid =>
    obtain ⟨hopc, hs⟩ := opcode_selector_of_instrOfFields h
    have hz : (fieldsOf b).z = 0 := by simpa [CommandFields.middleOk] using hmid
    rw [Instr.fields, ← hopc, ← hz, ← hs]
  · cases h

/-- The decoder accepts exactly the encodings of the ten commands (R71, R73). -/
theorem decode_eq_ok_iff {b : Byte} {i : Instr} : decode b = .ok i ↔ b = encode i := by
  constructor
  · intro h
    rw [encode, ← fieldsOf_of_decode h, byteOfFields_fieldsOf]
  · rintro rfl
    exact decode_encode i

/-- Every command's byte is in the opcode map (R71). -/
theorem encode_mem_opcodeMap (i : Instr) :
    encode i ∈ ([0x10, 0x20, 0x30, 0x31, 0x40, 0x41, 0x50, 0x51, 0x60, 0x70] : List Byte) := by
  cases i <;> decide

/-- R73's list of the reserved bytes. -/
def IsReservedByte (b : Byte) : Prop :=
  b.toNat / 16 = 0 ∨ 8 ≤ b.toNat / 16 ∨ b.extractLsb' 1 3 ≠ 0 ∨
    b ∈ ([0x11, 0x21, 0x61, 0x71] : List Byte)

/-- No command's byte is reserved. -/
theorem not_isReservedByte_encode (i : Instr) : ¬ IsReservedByte (encode i) := by
  unfold IsReservedByte
  cases i <;> decide

/-- The decoder rejects a reserved byte, and names a reason (R73). -/
theorem decode_eq_error_of_isReservedByte {b : Byte} (h : IsReservedByte b) :
    ∃ why, decode b = .error why := by
  cases hd : decode b with
  | error why => exact ⟨why, rfl⟩
  | ok i =>
    obtain rfl := decode_eq_ok_iff.1 hd
    exact absurd h (not_isReservedByte_encode i)

/-- Settles O1: each byte of the map is an encoding, and a byte that decodes is the encoding of the
command it decodes to. -/
theorem opcodeMapDecodes : Obligations.OpcodeMapDecodes := by
  refine ⟨decode_encode .crc6, decode_encode .vfy6, decode_encode .acqEl, decode_encode .acqAz,
    decode_encode .rdV, decode_encode .rdI, decode_encode .fltV, decode_encode .fltI,
    decode_encode .crc8, decode_encode .frame, ?_⟩
  intro b i h
  rw [decode_eq_ok_iff.1 h]
  exact encode_mem_opcodeMap i

end Sys2Proof

namespace Sys2Proof.Machine

/-- A byte that the decoder rejects is refused by name (R73). -/
theorem hostAct_command_of_error {s : State} {b : Byte} {why : Reserved}
    (h : decode b = .error why) : s.hostAct (.command b) = .refused (.reservedCommand b why) := by
  simp [State.hostAct, State.runCommand, h]

/-- Settles O3: an idle core takes the presented byte, and the decoder rejects it. -/
theorem reservedBytesAreRefused : Obligations.ReservedBytesAreRefused := by
  intro s b rest hcfg hidle hqueue hreserved
  obtain ⟨why, hdecode⟩ := decode_eq_error_of_isReservedByte hreserved
  exact ⟨why, (step_of_action hcfg hidle hqueue).trans (hostAct_command_of_error hdecode)⟩

/-! ### The telemetry frame -/

/-- The digits 0 to 9 are the characters `0` to `9` in either case (R83). -/
theorem hexDigit_toNat_of_le_nine {d : BitVec 4} (hd : d.toNat ≤ 9) (h : HexCase) :
    (hexDigit h d).toNat = 0x30 + d.toNat := by
  rw [hexDigit.eq_def, if_pos (by omega), BitVec.toNat_ofNat, Nat.mod_eq_of_lt (by omega)]

/-- The digits 10 to 15 are the letters `a` to `f` in lower case (R83). -/
theorem hexDigit_lower_toNat {d : BitVec 4} (hd : 10 ≤ d.toNat) :
    (hexDigit .lower d).toNat = 0x61 + (d.toNat - 10) := by
  rw [hexDigit, if_neg (by omega), BitVec.toNat_ofNat, Nat.mod_eq_of_lt (by omega)]

/-- The digits 10 to 15 are the letters `A` to `F` in upper case (R83). -/
theorem hexDigit_upper_toNat {d : BitVec 4} (hd : 10 ≤ d.toNat) :
    (hexDigit .upper d).toNat = 0x41 + (d.toNat - 10) := by
  rw [hexDigit, if_neg (by omega), BitVec.toNat_ofNat, Nat.mod_eq_of_lt (by omega)]

/-- Settles O55: one character lemma for each range of digits and case. -/
theorem hexDigitCharacters : Obligations.HexDigitCharacters := fun _ =>
  ⟨hexDigit_toNat_of_le_nine, fun hd => ⟨hexDigit_lower_toNat hd, hexDigit_upper_toNat hd⟩⟩

@[simp] theorem hexDigits_length {w : Nat} (h : HexCase) (v : BitVec w) (n : Nat) :
    (hexDigits h v n).length = n := by
  induction n with
  | zero => rfl
  | succ n ih => simp [hexDigits, ih]

/-- The digits stand most significant first: place `i` holds nibble `n - 1 - i`. -/
@[simp] theorem hexDigits_getElem {w : Nat} (h : HexCase) (v : BitVec w) (n i : Nat)
    (hi : i < (hexDigits h v n).length) :
    (hexDigits h v n)[i] = hexDigit h (nibbleAt v (n - 1 - i)) := by
  induction n generalizing i with
  | zero => simp at hi
  | succ n ih =>
    cases i with
    | zero => rfl
    | succ i =>
      have hplace : n + 1 - 1 - (i + 1) = n - 1 - i := by omega
      rw [hplace]
      exact ih i (by simpa using hi)

/-- R82: the frame has 21 bytes. -/
@[simp] theorem render_length (h : HexCase) (w : BitVec 64) (n : Byte) :
    (render h w n).length = 21 := by
  simp [render]

/-- R82: bytes 1 to 15 are the digits of the word, from bits 59:56 down. -/
theorem render_getElem?_data (h : HexCase) (w : BitVec 64) (n : Byte) {i : Nat} (hi : i < 15) :
    (render h w n)[i + 1]? = some (hexDigit h (nibbleAt w (14 - i))) := by
  simp [render, List.getElem?_append, hi]

/-- R82: bytes 16 and 17 are the digits of the CRC-8, the high one first. -/
theorem render_getElem?_crc (h : HexCase) (w : BitVec 64) (n : Byte) {j : Nat} (hj : j < 2) :
    (render h w n)[j + 16]? = some (hexDigit h (nibbleAt n (1 - j))) := by
  simp [render, List.getElem?_append, hj]

/-- R82: the frame ends in `>`, carriage return and line feed. -/
theorem render_getElem?_end (h : HexCase) (w : BitVec 64) (n : Byte) (j : Nat) :
    (render h w n)[j + 18]? = ([0x3E, 0x0D, 0x0A] : List Byte)[j]? := by
  simp [render, List.getElem?_append]

/-- Settles O56, part by part: the opening byte, the data digits, the CRC digits, the end. -/
theorem telemetryFrameLayout : Obligations.TelemetryFrameLayout := by
  intro h w n
  exact ⟨render_length h w n, rfl, fun i => render_getElem?_data h w n,
    render_getElem?_crc h w n (j := 0) (by decide), render_getElem?_crc h w n (j := 1) (by decide),
    render_getElem?_end h w n 0, render_getElem?_end h w n 1, render_getElem?_end h w n 2⟩

end Sys2Proof.Machine
end

section
/-! Proofs of the family 40_crc6_validator.md: the CRC-6 is linear, so whether an error pattern is
detected does not depend on the frame it hits (R105); the next states of `CRC6` and `VFY6` (R102,
R104). -/

namespace Sys2Proof.Machine

/-! ### The table and the CRC-6 are linear -/

/-- The table is its construction, entry by entry (R52). -/
theorem readT6_eq_tableStep6 : ∀ i : BitVec 6, readT6 i =
    tableStep6 (tableStep6 (tableStep6 (tableStep6 (tableStep6 (tableStep6 i))))) := by decide

/-- One step is linear: a shift, and the feedback of one bit. -/
theorem tableStep6_xor (a b : BitVec 6) :
    tableStep6 (a ^^^ b) = tableStep6 a ^^^ tableStep6 b := by
  have hfeedback (x y : Bool) : (if x ^^ y then (0x03 : BitVec 6) else 0) =
      (if x then 0x03 else 0) ^^^ (if y then 0x03 else 0) := by
    cases x <;> cases y <;> rfl
  rw [tableStep6, BitVec.shiftLeft_xor_distrib, BitVec.getLsbD_xor, hfeedback, tableStep6,
    tableStep6]
  ac_rfl

theorem readT6_xor (a b : BitVec 6) : readT6 (a ^^^ b) = readT6 a ^^^ readT6 b := by
  simp only [readT6_eq_tableStep6, tableStep6_xor]

theorem payloadChunk_xor (p q : BitVec 18) (k : Nat) :
    payloadChunk (p ^^^ q) k = payloadChunk p k ^^^ payloadChunk q k :=
  BitVec.extractLsb'_xor

/-- The CRC-6 is linear in the starting value and the payload together (R101, R108). -/
theorem crc6_xor (i j : BitVec 6) (p q : BitVec 18) :
    crc6 (i ^^^ j) (p ^^^ q) = crc6 i p ^^^ crc6 j q := by
  simp only [crc6, payloadChunk_xor, readT6_xor]
  ac_rfl

/-! ### The fields of a frame and its verification (R75, R103) -/

theorem framePayload_xor (f e : BitVec 24) :
    framePayload (f ^^^ e) = framePayload f ^^^ framePayload e :=
  BitVec.extractLsb'_xor

theorem frameCrc_xor (f e : BitVec 24) : frameCrc (f ^^^ e) = frameCrc f ^^^ frameCrc e :=
  BitVec.extractLsb'_xor

@[simp] theorem framePayload_append (p : BitVec 18) (c : BitVec 6) :
    framePayload (p ++ c : BitVec 24) = p := by
  rw [framePayload, BitVec.extractLsb'_append_eq_of_le (by decide), BitVec.extractLsb'_eq_self]

@[simp] theorem frameCrc_append (p : BitVec 18) (c : BitVec 6) :
    frameCrc (p ++ c : BitVec 24) = c := by
  rw [frameCrc, BitVec.extractLsb'_append_eq_of_add_le (by decide), BitVec.extractLsb'_eq_self]

/-- The payload of the frame in `DIN` is `DIN[23:6]` (R104). -/
theorem framePayload_dinFrame (s : State) :
    framePayload s.dinFrame = s.din.extractLsb' 6 18 :=
  BitVec.extractLsb'_extractLsb'_of_le (by decide)

/-- The received CRC of the frame in `DIN` is `DIN[5:0]` (R104). -/
theorem frameCrc_dinFrame (s : State) : frameCrc s.dinFrame = s.din.extractLsb' 0 6 :=
  BitVec.extractLsb'_extractLsb'_of_le (by decide)

/-- A frame verifies exactly when the recomputed CRC is the received one (R103). -/
theorem verifyAndStrip_ok_iff (init : BitVec 6) (f : BitVec 24) :
    (verifyAndStrip init f).ok = true ↔ crc6 init (framePayload f) = frameCrc f := by
  simp [verifyAndStrip, crcMatches]

/-- A built frame hit by the error pattern `e` verifies exactly when `e` alone, taken as a frame,
verifies from starting value 0: the payload and its CRC cancel. -/
theorem verifyAndStrip_built_xor_ok_iff (init : BitVec 6) (p : BitVec 18) (e : BitVec 24) :
    (verifyAndStrip init ((p ++ crc6 init p : BitVec 24) ^^^ e)).ok = true ↔
      (verifyAndStrip 0 e).ok = true := by
  have hcrc : crc6 init (p ^^^ framePayload e) = crc6 init p ^^^ crc6 0 (framePayload e) := by
    rw [← crc6_xor, show init ^^^ 0 = init from BitVec.xor_zero]
  rw [verifyAndStrip_ok_iff, verifyAndStrip_ok_iff, framePayload_xor, frameCrc_xor,
    framePayload_append, frameCrc_append, hcrc, BitVec.xor_right_inj]

/-- A frame built from a payload and its CRC verifies (R105). -/
theorem verifyAndStrip_built_ok (init : BitVec 6) (p : BitVec 18) :
    (verifyAndStrip init (p ++ crc6 init p : BitVec 24)).ok = true := by
  rw [verifyAndStrip_ok_iff, framePayload_append, frameCrc_append]

/-- No pattern of a single bit verifies from starting value 0. -/
theorem verifyAndStrip_singleBit_not_ok : ∀ k < 24, (verifyAndStrip 0 (1#24 <<< k)).ok ≠ true := by
  decide

/-- Settles O25: by linearity a flipped bit is detected in every built frame or in none, and its
pattern alone does not verify. -/
theorem oneFlippedBitIsDetected : Obligations.OneFlippedBitIsDetected := by
  intro init p
  refine ⟨verifyAndStrip_built_ok init p, fun k hk => Bool.eq_false_iff.2 ?_⟩
  exact mt (verifyAndStrip_built_xor_ok_iff init p _).1 (verifyAndStrip_singleBit_not_ok k hk)

/-- Settles O23: the payload and the CRC are fields of the result whatever the comparison says. -/
theorem verifyAlwaysReturnsThePayload : Obligations.VerifyAlwaysReturnsThePayload :=
  fun init f => ⟨rfl, verifyAndStrip_ok_iff init f, rfl⟩

/-! ### The commands -/

/-- The whole next state of `CRC6` (R102). -/
theorem exec_crc6 (s : State) : exec .crc6 s = .next { s with
    rCrc := (crc6 s.cfg.crc6Init s.dinPayload).zeroExtend 8, busy := false } := rfl

/-- The whole next state of `VFY6`, by what the verification returns (R104). -/
theorem exec_vfy6 (s : State) : exec .vfy6 s = .next
    { s.writeVerified (verifyAndStrip s.cfg.crc6Init s.dinFrame) with busy := false } := rfl

/-- What `VFY6` verifies, in the bits of `DIN` (R104). -/
theorem verifyAndStrip_dinFrame (init : BitVec 6) (s : State) :
    verifyAndStrip init s.dinFrame =
      ⟨s.din.extractLsb' 6 18,
       decide (crc6 init (s.din.extractLsb' 6 18) = s.din.extractLsb' 0 6),
       crc6 init (s.din.extractLsb' 6 18)⟩ := by
  simp only [verifyAndStrip, crcMatches, framePayload_dinFrame, frameCrc_dinFrame]

/-- Settles O20: the decoding of the encoding, the next state, and the three values of R102. -/
theorem crc6Command : Obligations.Crc6Command :=
  ⟨decode_encode .crc6, exec_crc6, by decide⟩

/-- Settles O24: the decoding of the encoding, the next state with the operand's fields read off
`DIN`, and the values of R104. -/
theorem vfy6Command : Obligations.Vfy6Command := by
  refine ⟨decode_encode .vfy6, fun s => ?_, by decide⟩
  rw [exec_vfy6, verifyAndStrip_dinFrame]
  rfl

end Sys2Proof.Machine
end

section
/-! Proofs of the family 41_angle_frame_shifter.md: the angle scale is the nearest hundredth of a
degree (R118), and the whole next state of an acquisition in the bits of its frame (R110). -/

namespace Sys2Proof.Machine

/-! ### The angle scale (R118) -/

/-- The shift form: the widest code scales to 35998, so the 16 bits of the angle lose nothing. -/
theorem angleScale_toNat (raw : BitVec 14) :
    (angleScale raw).toNat = (raw.toNat * 1125 + 256) >>> 9 := by
  have hraw := raw.isLt
  rw [angleScale, Word.ofNat, BitVec.toNat_ofNat, Nat.mod_eq_of_lt]
  rw [Nat.shiftRight_eq_div_pow]
  omega

/-- The shift form is the rounded division in lowest terms: 36000, 8192 and 16384 share the
factor 32. -/
theorem shift_form_eq_rounded_division (n : Nat) :
    (n * 1125 + 256) >>> 9 = (n * 36000 + 8192) / 16384 := by
  rw [Nat.shiftRight_eq_div_pow]
  omega

/-- The division form of `angle_scale`. -/
theorem angleScale_eq_ofNat (raw : BitVec 14) :
    angleScale raw = BitVec.ofNat 16 ((raw.toNat * 36000 + 8192) / 16384) := by
  rw [angleScale, Word.ofNat, shift_form_eq_rounded_division]

/-- A remainder of one half means a code of 256 modulo 512: 1125 is odd, so it is invertible there. -/
theorem scale_tie_iff {n : Nat} (hn : n < 2 ^ 14) :
    n * 36000 % 16384 = 8192 ↔ ∃ j < 32, n = 256 + 512 * j := by
  constructor
  · intro htie
    exact ⟨n / 512, by omega, by omega⟩
  · rintro ⟨j, -, rfl⟩
    omega

/-- Settles O37: the two forms, the ties, and the bound of the intermediate by the greatest code. -/
theorem angleScaleIsNearest : Obligations.AngleScaleIsNearest := by
  intro raw
  have hmax : raw.toNat * 1125 + 256 ≤ 16383 * 1125 + 256 := by
    have hraw := raw.isLt
    omega
  exact ⟨(angleScale_toNat raw).trans (shift_form_eq_rounded_division _), angleScale_toNat raw,
    scale_tie_iff raw.isLt, hmax, by decide⟩

/-! ### The acquisition (R110) -/

/-- The whole next state of `ACQ a`, by what the verification of the frame returns: `acquire(a)`,
completed. -/
theorem exec_acq_eq (a : Axis) (s : State) :
    exec (acqInstr a) s = .next { s.setAngle a (readingOf s.linkVerified) with
      sr24 := frameOfBytes (s.linkByte 0) (s.linkByte 1) (s.linkByte 2)
      rPay := s.linkVerified.payload
      rCrc := s.linkVerified.crc.zeroExtend 8
      fOk := s.linkVerified.ok
      comm := { s.comm with
        warning := s.comm.warning || s.linkTimesOut 0 || s.linkTimesOut 1 || s.linkTimesOut 2 }
      selEl := s.selEl || decide (a = .el)
      selAz := s.selAz || decide (a = .az)
      lnkPhase := .idle
      busy := false
      linkAnswers := s.linkAnswers.drop 3
      draws := s.draws + 3
      trace := s.trace ++ s.linkEvents a
      raised := s.raised ++ s.linkAdvisories a s.linkVerified.ok } := by
  rw [exec_acq, State.acquire_eq]
  cases a <;> rfl

/-- The reading of a verified frame, in the bits of its payload, the angle in its division form
(R117, R118, R120). -/
theorem readingOf_eq (v : Verified) :
    readingOf v =
      { angle := BitVec.ofNat 16 (((v.payload.extractLsb' 4 14).toNat * 36000 + 8192) / 16384)
        field := v.payload.extractLsb' 2 2
        button := v.payload.getLsbD 1
        track := v.payload.getLsbD 0
        crcValid := v.ok } := by
  rw [readingOf, angleScale_eq_ofNat]
  rfl

/-- Settles O32: the next state of `exec_acq_eq` with its reading written in the payload's bits; the
payload, the CRC and the check are the verification's by definition. -/
theorem acquireFollowsTheProtocol : Obligations.AcquireFollowsTheProtocol := by
  intro a s
  rw [exec_acq_eq, readingOf_eq]
  rfl

end Sys2Proof.Machine
end

section
/-! Proofs of the family 42_adc_autorange_fsm.md: the numeric contract of the default forms (R141),
the whole next state of the two reads (R133, R135), and the hang of an unanswered conversion
(R143). -/

/-! ### The default forms (R137 to R141) -/

namespace Sys2Proof

theorem Word.toNat_ofNat_of_lt {n : Nat} (h : n < 2 ^ 16) : (Word.ofNat n).toNat = n :=
  (BitVec.toNat_ofNat ..).trans (Nat.mod_eq_of_lt h)

/-- A well-formed configuration, by its parts (R6, R7). -/
theorem Config.wellFormed_iff (c : Config) : c.wellFormed = true ↔
    (1 ≤ c.adcBits ∧ c.adcBits ≤ 16) ∧ 1 ≤ c.filterN ∧ 1 ≤ c.errcntBits ∧ c.scalingOk = true := by
  simp [Config.wellFormed, Config.adcBitsOk, Config.filterNOk, Config.errcntBitsOk, and_assoc]

/-- The largest code is a word: `ADC_BITS` is at most 16 (R6, R79). -/
theorem Config.maxCode_lt {c : Config} (hc : c.wellFormed = true) : c.maxCode < 2 ^ 16 := by
  obtain ⟨⟨-, hbits⟩, -⟩ := c.wellFormed_iff.1 hc
  exact (Nat.sub_lt (Nat.two_pow_pos _) Nat.one_pos).trans_le (Nat.pow_le_pow_right (by decide) hbits)

/-- A default form does not decrease in its operand. -/
theorem linearForm_mono {m n : Nat} (h : m ≤ n) (num den : Nat) : m * num / den ≤ n * num / den :=
  Nat.div_le_div_right (Nat.mul_le_mul_right num h)

theorem LinearScaling.maxRail_mono (k : LinearScaling) {m n : Nat} (h : m ≤ n) :
    k.maxRail m ≤ k.maxRail n :=
  linearForm_mono h _ _

theorem LinearScaling.maxCoeff_mono (k : LinearScaling) {m n : Nat} (h : m ≤ n) :
    k.maxCoeff m ≤ k.maxCoeff n :=
  linearForm_mono (k.maxRail_mono h) _ _

theorem LinearScaling.productsOk_iff (k : LinearScaling) (n : Nat) :
    k.productsOk n = true ↔ n * k.voltNum < 2 ^ 32 ∧ n * k.railNum < 2 ^ 32 ∧
      k.maxRail n * k.coefNum < 2 ^ 32 ∧ n * k.maxCoeff n < 2 ^ 32 := by
  simp [LinearScaling.productsOk, and_assoc]

theorem LinearScaling.resultsOk_iff (k : LinearScaling) (n : Nat) :
    k.resultsOk n = true ↔ n * k.voltNum / k.voltDen < 2 ^ 16 ∧ k.maxRail n < 2 ^ 16 ∧
      k.maxCoeff n < 2 ^ 16 ∧ n * k.maxCoeff n / k.curDen < 2 ^ 16 := by
  simp [LinearScaling.resultsOk, and_assoc]

end Sys2Proof

namespace Sys2Proof.Machine

section Linear
variable {c : Config} {k : LinearScaling} (hs : c.scaling = .linear k)
include hs

theorem scaleV_linear (code : Word) :
    scaleV c code = Word.ofNat (code.toNat * k.voltNum / k.voltDen) := by
  simp [scaleV, hs]

theorem railEst_linear (code : Word) : railEst c code = Word.ofNat (k.maxRail code.toNat) := by
  simp [railEst, hs, LinearScaling.maxRail]

theorem coeffOf_linear (rail : Word) :
    coeffOf c rail = Word.ofNat (rail.toNat * k.coefNum / k.coefDen) := by
  simp [coeffOf, hs]

theorem scaleI_linear (code coeff : Word) :
    scaleI c code coeff = Word.ofNat (code.toNat * coeff.toNat / k.curDen) := by
  simp [scaleI, hs]

/-- The corner case of R133. -/
theorem scaleV_zero_of_linear : scaleV c 0 = 0 := by simp [scaleV_linear hs, Word.ofNat]

/-- The corner cases of R135. -/
theorem current_forms_zero_of_linear (codeI : Word) :
    railEst c 0 = 0 ∧ coeffOf c 0 = 0 ∧ scaleI c codeI 0 = 0 := by
  simp [railEst_linear hs, coeffOf_linear hs, scaleI_linear hs, Word.ofNat, LinearScaling.maxRail]

variable (hc : c.wellFormed = true)
include hc

/-- What well-formedness says of the default forms at the largest code (R6, R141). -/
theorem scaling_contract : k.productsOk c.maxCode = true ∧ k.resultsOk c.maxCode = true := by
  obtain ⟨-, -, -, hscaling⟩ := c.wellFormed_iff.1 hc
  simp only [Config.scalingOk, hs, Bool.and_eq_true] at hscaling
  obtain ⟨⟨-, hproducts⟩, hresults⟩ := hscaling
  exact ⟨hproducts, hresults⟩

/-- `ScaleV` is exact on every code (R141). -/
theorem scaleV_toNat_of_linear {code : Word} (hcode : code.toNat ≤ c.maxCode) :
    (scaleV c code).toNat = code.toNat * k.voltNum / k.voltDen := by
  obtain ⟨hvolt, -⟩ := (k.resultsOk_iff _).1 (scaling_contract hs hc).2
  rw [scaleV_linear hs, Word.toNat_ofNat_of_lt ((linearForm_mono hcode _ _).trans_lt hvolt)]

/-- `RailEst` is exact on every code (R141). -/
theorem railEst_toNat_of_linear {code : Word} (hcode : code.toNat ≤ c.maxCode) :
    (railEst c code).toNat = k.maxRail code.toNat := by
  obtain ⟨-, hrail, -⟩ := (k.resultsOk_iff _).1 (scaling_contract hs hc).2
  rw [railEst_linear hs, Word.toNat_ofNat_of_lt ((k.maxRail_mono hcode).trans_lt hrail)]

/-- `Coeff` is exact on every rail that `RailEst` returns (R141). -/
theorem coeffOf_railEst_toNat_of_linear {code : Word} (hcode : code.toNat ≤ c.maxCode) :
    (coeffOf c (railEst c code)).toNat = k.maxCoeff code.toNat := by
  obtain ⟨-, -, hcoeff, -⟩ := (k.resultsOk_iff _).1 (scaling_contract hs hc).2
  rw [coeffOf_linear hs, railEst_toNat_of_linear hs hc hcode]
  exact Word.toNat_ofNat_of_lt ((k.maxCoeff_mono hcode).trans_lt hcoeff)

/-- `ScaleI` is exact on every code and every coefficient that `Coeff` returns (R141). -/
theorem scaleI_coeffOf_toNat_of_linear {code codeI : Word} (hcode : code.toNat ≤ c.maxCode)
    (hcodeI : codeI.toNat ≤ c.maxCode) :
    (scaleI c codeI (coeffOf c (railEst c code))).toNat =
      codeI.toNat * k.maxCoeff code.toNat / k.curDen := by
  obtain ⟨-, -, -, hcur⟩ := (k.resultsOk_iff _).1 (scaling_contract hs hc).2
  rw [scaleI_linear hs, coeffOf_railEst_toNat_of_linear hs hc hcode]
  refine Word.toNat_ofNat_of_lt (lt_of_le_of_lt ?_ hcur)
  exact Nat.div_le_div_right (Nat.mul_le_mul hcodeI (k.maxCoeff_mono hcode))

/-- `ScaleV` does not exceed its value at the largest code, a word because `ADC_BITS` is at most
16. -/
theorem scaleV_le_maxCode_of_linear {code : Word} (hcode : code.toNat ≤ c.maxCode) :
    (scaleV c code).toNat ≤ (scaleV c (BitVec.ofNat 16 c.maxCode)).toNat := by
  have hmax : (BitVec.ofNat 16 c.maxCode).toNat = c.maxCode := Word.toNat_ofNat_of_lt (Config.maxCode_lt hc)
  rw [scaleV_toNat_of_linear hs hc hcode, scaleV_toNat_of_linear hs hc hmax.le, hmax]
  exact linearForm_mono hcode _ _

end Linear

/-- Settles O42: each function is exact on the codes, and each product is at most the product at the
largest code, which the configuration bounds. -/
theorem linearFormsNeverOverflow : Obligations.LinearFormsNeverOverflow := by
  intro c k code codeI hc hs hcode hcodeI
  have hle : code.toNat ≤ c.maxCode := Nat.le_sub_one_of_lt hcode
  have hleI : codeI.toNat ≤ c.maxCode := Nat.le_sub_one_of_lt hcodeI
  obtain ⟨hvolt, hrail, hcoef, hcur⟩ := (k.productsOk_iff _).1 (scaling_contract hs hc).1
  dsimp only
  rw [scaleI_coeffOf_toNat_of_linear hs hc hle hleI, coeffOf_railEst_toNat_of_linear hs hc hle,
    railEst_toNat_of_linear hs hc hle]
  exact ⟨(Nat.mul_le_mul_right _ hle).trans_lt hvolt, scaleV_toNat_of_linear hs hc hle,
    (Nat.mul_le_mul_right _ hle).trans_lt hrail, rfl,
    (Nat.mul_le_mul_right _ (k.maxRail_mono hle)).trans_lt hcoef, rfl,
    (Nat.mul_le_mul hleI (k.maxCoeff_mono hle)).trans_lt hcur, rfl⟩

/-! ### The reads (R133, R135) -/

/-- A read whose conversions are answered completes. -/
theorem exec_rd_of_done {s t : State} {c : Channel} (h : s.take.readChannel c = .done t) :
    exec (rdInstr c) s = .next t.complete := by
  rw [exec_rd, h]
  rfl

/-- A read that hangs leaves the state in which it waits (R186). -/
theorem exec_rd_of_hung {s t : State} {c : Channel} (h : s.take.readChannel c = .hung t) :
    exec (rdInstr c) s = .next t := by
  rw [exec_rd, h]
  rfl

/-- A filter call whose read hangs leaves the state in which the read waits (R151, R152). -/
theorem exec_flt_of_hung {s t : State} {c : Channel} (hidx : (s.chan c).fidx < s.cfg.filterN)
    (h : s.take.readChannel c = .hung t) : exec (fltInstr c) s = .next t := by
  rw [exec_flt, State.filterStep_of_lt (by simpa using hidx), h]
  rfl

/-- Settles O39: what `read_voltage()` does in its two cases, completed or waiting, and the exactness
of `ScaleV`. -/
theorem readVoltageCommand : Obligations.ReadVoltageCommand := by
  refine ⟨decode_encode .rdV, fun s code h => ?_, fun s h => ?_, fun c k => scaleV_zero_of_linear,
    fun c k code hs hc hcode => scaleV_le_maxCode_of_linear hs hc hcode, by decide⟩
  · exact exec_rd_of_done (c := .v) (State.readVoltage_some (s := s.take) h)
  · exact exec_rd_of_hung (c := .v) (State.readVoltage_none (s := s.take) h)

/-- Settles O40: what `read_current()` does in its three cases, completed or waiting. -/
theorem readCurrentCommand : Obligations.ReadCurrentCommand := by
  refine ⟨decode_encode .rdI, fun s codeS codeI hS hI => ?_, fun s hS => ?_,
    fun s codeS hS hI => ?_, fun c k codeI hs => current_forms_zero_of_linear hs codeI, by decide⟩
  · exact exec_rd_of_done (c := .i) (State.readCurrent_some_some (s := s.take) hS hI)
  · exact exec_rd_of_hung (c := .i) (State.readCurrent_none (s := s.take) hS)
  · exact exec_rd_of_hung (c := .i) (State.readCurrent_some_none (s := s.take) hS hI)

/-! ### The hang (R143) -/

/-- Where the sequencer of channel `c` waits for the conversion that is not answered (R143). -/
def State.hangPhase (s : State) : Channel → AfePhase
  | .v => .vConv
  | .i => if s.convAnswer 0 = none then .railConv else .curConv

theorem State.conversionsAnswered_v (s : State) :
    s.conversionsAnswered .v ↔ (s.convAnswer 0).isSome = true := by
  simp [State.conversionsAnswered, conversionsOf]

theorem State.conversionsAnswered_i (s : State) :
    s.conversionsAnswered .i ↔
      (s.convAnswer 0).isSome = true ∧ (s.convAnswer 1).isSome = true := by
  simp [State.conversionsAnswered, conversionsOf, Nat.le_one_iff_eq_zero_or_eq_one]

/-- `t` waits for the conversion that a read of channel `c` begun in `s` is not answered: the sequencer
stands at it, and `BUSY`, the channel, the configuration and the host's actions are those of `s`. -/
structure State.WaitsIn (s : State) (c : Channel) (t : State) : Prop where
  phase : t.afePhase = s.hangPhase c
  busy  : t.busy = s.busy
  chan  : t.chan c = s.chan c
  cfg   : t.cfg = s.cfg
  queue : t.hostQueue = s.hostQueue

/-- A read with a conversion that is not answered hangs at that conversion (R143). -/
theorem State.readChannel_hung {s : State} {c : Channel} (h : ¬ s.conversionsAnswered c) :
    ∃ t, s.readChannel c = .hung t ∧ s.WaitsIn c t := by
  cases c with
  | v =>
    have h0 : s.convAnswer 0 = none := by simpa [State.conversionsAnswered_v] using h
    exact ⟨_, State.readVoltage_none h0, rfl, rfl, rfl, rfl, rfl⟩
  | i =>
    cases h0 : s.convAnswer 0 with
    | none => exact ⟨_, State.readCurrent_none h0, by simp [State.hangPhase, h0, State.supplyWait],
        rfl, rfl, rfl, rfl⟩
    | some codeS =>
      have h1 : s.convAnswer 1 = none := by simpa [State.conversionsAnswered_i, h0] using h
      exact ⟨_, State.readCurrent_some_none h0 h1,
        by simp [State.hangPhase, h0, State.currentWait], rfl, rfl, rfl, rfl⟩

/-- Settles O17: either command leaves the state in which its read waits, and a hung core without a
reset stays as it is, step by step. -/
theorem unansweredConversionHangsForEver : Obligations.UnansweredConversionHangsForEver := by
  intro c i s hi hidx hunanswered
  obtain ⟨t, hread, hphase, hbusy, hchan, hcfg, hqueue⟩ :=
    State.readChannel_hung (s := s.take) hunanswered
  have hexec : exec i s = .next t := by
    rcases hi with rfl | rfl
    · exact exec_rd_of_hung hread
    · exact exec_flt_of_hung hidx hread
  refine ⟨t, hexec, hbusy, hchan.trans (s.take_chan c), ?_, fun hwf hreset => ?_⟩
  · rw [hphase]
    cases c <;> rfl
  · exact run_of_step_self (step_of_hung (hcfg ▸ hwf) hbusy (hqueue ▸ hreset))

end Sys2Proof.Machine
end

section
/-! Proofs of the family 43_moving_average_filter.md: a filter call is its read, then the average of
one channel (R150). -/

namespace Sys2Proof.Machine

/-- The mean is at most the largest slot: if it were above every slot, `n` times it would be above
their sum. -/
theorem Memory.exists_mean_le_read (m : Memory) {n : Nat} (hn : 0 < n) :
    ∃ j < n, m.sum n / n ≤ (m.read j).toNat := by
  have hsum : ∑ _j ∈ Finset.range n, m.sum n / n ≤ ∑ j ∈ Finset.range n, (m.read j).toNat := by
    simpa [← m.sum_eq_range] using Nat.mul_div_le (m.sum n) n
  obtain ⟨j, hj, hle⟩ := Finset.exists_le_of_sum_le (Finset.nonempty_range_iff.2 hn.ne') hsum
  exact ⟨j, Finset.mem_range.1 hj, hle⟩

@[simp] theorem State.average_chan (s : State) (c : Channel) :
    (s.average c).chan c = (s.chan c).average s.cfg.filterN :=
  s.setChan_chan_same c _

/-- The average changes nothing but its channel. -/
theorem State.average_eq_setChan (s : State) (c : Channel) :
    s.average c = s.setChan c ((s.average c).chan c) := by
  rw [State.average_chan, State.average]

@[simp] theorem State.average_busy (s : State) (c : Channel) : (s.average c).busy = s.busy :=
  s.setChan_busy c _

/-- The average may be taken before or after the completion of the command. -/
theorem State.complete_average (s : State) (c : Channel) :
    (s.average c).complete = s.complete.average c := by
  cases c <;> rfl

/-- A read whose conversions are answered is done, and leaves the configuration and the channel's
index and buffer as they are (R132, R134). -/
theorem State.readChannel_done {s : State} {c : Channel} (h : s.conversionsAnswered c) :
    ∃ t, s.readChannel c = .done t ∧ t.cfg = s.cfg ∧
      (t.chan c).fidx = (s.chan c).fidx ∧ (t.chan c).fbuf = (s.chan c).fbuf := by
  cases c with
  | v =>
    obtain ⟨code, h0⟩ := Option.isSome_iff_exists.1 (s.conversionsAnswered_v.1 h)
    exact ⟨_, State.readVoltage_some h0, rfl, rfl, rfl⟩
  | i =>
    obtain ⟨hS, hI⟩ := s.conversionsAnswered_i.1 h
    obtain ⟨codeS, h0⟩ := Option.isSome_iff_exists.1 hS
    obtain ⟨codeI, h1⟩ := Option.isSome_iff_exists.1 hI
    exact ⟨_, State.readCurrent_some_some h0 h1, rfl, rfl, rfl⟩

/-- A filter call whose read is done is the completed read, averaged (R150). -/
theorem exec_flt_of_done {s t : State} {c : Channel} (hidx : (s.chan c).fidx < s.cfg.filterN)
    (h : s.take.readChannel c = .done t) :
    exec (fltInstr c) s = .next (t.complete.average c) := by
  rw [exec_flt, State.filterStep_of_lt (by simpa using hidx), h, ← State.complete_average]
  rfl

/-- Settles O46: after an answered read, the average of a channel whose index and canonical buffer
the read has kept; a read that hangs is the whole of either command. -/
theorem filterStepAveragesTheBuffer : Obligations.FilterStepAveragesTheBuffer := by
  intro c s hidx hwf
  refine ⟨fun hanswered => ?_, fun hunanswered => ?_⟩
  · obtain ⟨u, hread, hcfg, hfidx, hfbuf⟩ := State.readChannel_done (s := s.take) hanswered
    rw [State.take_chan] at hfidx hfbuf
    rw [State.take_cfg] at hcfg
    obtain ⟨hraw, hslots, hnext, hmean, -, -⟩ :=
      AnalogChannel.average_spec (g := u.chan c) (hfbuf ▸ hwf) (hfidx ▸ hidx)
    refine ⟨u.complete, u.complete.average c, exec_rd_of_done hread, exec_flt_of_done hidx hread,
      State.average_eq_setChan _ _, ?_⟩
    have hchan : (u.complete.average c).chan c = (u.chan c).average s.cfg.filterN := by simp [hcfg]
    simp only [State.slot, hchan, State.complete_chan]
    refine ⟨hraw, fun j => ?_, ?_, ?_, ?_, State.average_busy _ _⟩
    · rw [hslots, hfidx, hfbuf]
    · rw [hnext, hfidx]
    · rw [hmean, Memory.sum_eq_range]
    · rw [hmean]
      exact Memory.exists_mean_le_read _ (Nat.zero_lt_of_lt hidx)
  · obtain ⟨t, hread, -⟩ := State.readChannel_hung (s := s.take) hunanswered
    rw [exec_flt_of_hung hidx hread, exec_rd_of_hung hread]

end Sys2Proof.Machine
end

section
/-! Proofs of the family 44_crc8_frame_checksum.md: the whole next states of `CRC8` (R163) and
`FRAME` (R170), and the document's end-to-end example. -/

namespace Sys2Proof.Machine

/-- The whole next state of `CRC8` (R163). -/
theorem exec_crc8 (s : State) :
    exec .crc8 s = .next { s with rCrc := crc8 s.din, busy := false } := rfl

/-- The CRC-8 of the example word, over its eight significant bytes (R163, R170). -/
theorem crc8_exampleWord : crc8 0x0232800000640322 = 0xF6 := by decide

/-- Settles O29: the decoding of the encoding, the next state, and the example's CRC-8. -/
theorem crc8Command : Obligations.Crc8Command :=
  ⟨decode_encode .crc8, exec_crc8, crc8_exampleWord⟩

/-- `FRAME` is `frame()` between taking and completing the command (R170). -/
theorem exec_frame (s : State) : exec .frame s = .next s.take.frame.complete := rfl

/-- The example's fields packed: 90.00 and 0.00 degrees, 100, 50 and the switch levels 2 (R170). -/
theorem pack_exampleFields : pack 9000 0 100 50 0b10 = 0x0232800000640322 := by decide

/-- Settles O53: the next state by what `frame()` does, then the example packed, checksummed and
rendered in either case. -/
theorem frameCommand : Obligations.FrameCommand := by
  refine ⟨decode_encode .frame, fun s => ?_, pack_exampleFields, crc8_exampleWord, ?_, ?_⟩
  · rw [exec_frame, State.frame_eq]
    rfl
  · decide
  · decide

end Sys2Proof.Machine
end

section
/-! Proofs of the family 60_exceptions.md: the advisory events of an acquisition (R187), and that no
other command raises one (R181, R182). -/

namespace Sys2Proof.Machine

/-! ### The commands that raise nothing -/

/-- A front-end read raises no event, completed or hung, if what follows it raises none. -/
theorem State.readChannel_settle_raised (s : State) (c : Channel) {after : State → State}
    (hafter : ∀ t, (after t).raised = t.raised) :
    ((s.readChannel c).settle after).raised = s.raised := by
  cases c with
  | v =>
    rw [State.readChannel]
    cases h0 : s.convAnswer 0 with
    | none => rw [State.readVoltage_none h0]; rfl
    | some code => rw [State.readVoltage_some h0]; exact hafter _
  | i =>
    rw [State.readChannel]
    cases h0 : s.convAnswer 0 with
    | none => rw [State.readCurrent_none h0]; rfl
    | some codeS =>
      cases h1 : s.convAnswer 1 with
      | none => rw [State.readCurrent_some_none h0 h1]; rfl
      | some codeI => rw [State.readCurrent_some_some h0 h1]; exact hafter _

/-- A filter call that answers a next state has run: the read, then the average (R150). -/
theorem State.filterStep_next {s t : State} {c : Channel} (h : s.filterStep c = .next t) :
    t = (s.readChannel c).settle (fun u => u.average c) := by
  rcases Nat.lt_or_ge (s.chan c).fidx s.cfg.filterN with hlt | hge
  · rw [State.filterStep_of_lt hlt] at h
    cases h
    rfl
  · rw [State.filterStep_of_ge hge] at h
    cases h

@[simp] theorem State.average_raised (s : State) (c : Channel) :
    (s.average c).raised = s.raised :=
  s.setChan_raised c _

/-- `RD c` raises no event (R181, R182). -/
theorem exec_rd_raised {c : Channel} {s t : State} (h : exec (rdInstr c) s = .next t) :
    t.raised = s.raised := by
  rw [exec_rd] at h
  cases h
  exact s.take.readChannel_settle_raised c fun _ => rfl

/-- `FLT c` raises no event (R181, R182). -/
theorem exec_flt_raised {c : Channel} {s t : State} (h : exec (fltInstr c) s = .next t) :
    t.raised = s.raised := by
  rw [exec_flt] at h
  rw [State.filterStep_next h]
  exact s.take.readChannel_settle_raised c fun u => u.average_raised c

/-- `FRAME` raises no event (R181, R182). -/
theorem exec_frame_raised {s t : State} (h : exec .frame s = .next t) : t.raised = s.raised := by
  rw [exec_frame, State.frame_eq] at h
  cases h
  rfl

/-- A command other than the two acquisitions raises no event (R181, R182). -/
theorem exec_raised_of_ne_acqInstr {i : Instr} {s t : State} (hi : ∀ a, i ≠ acqInstr a)
    (h : exec i s = .next t) : t.raised = s.raised := by
  cases i with
  | acqEl => exact absurd rfl (hi .el)
  | acqAz => exact absurd rfl (hi .az)
  | crc6 => rw [exec_crc6] at h; cases h; rfl
  | vfy6 => rw [exec_vfy6] at h; cases h; rfl
  | crc8 => rw [exec_crc8] at h; cases h; rfl
  | rdV => exact exec_rd_raised (c := .v) h
  | rdI => exact exec_rd_raised (c := .i) h
  | fltV => exact exec_flt_raised (c := .v) h
  | fltI => exact exec_flt_raised (c := .i) h
  | frame => exact exec_frame_raised h

/-! ### The acquisition (R187) -/

/-- Settles O36: an acquisition by the fields of `exec_acq_eq`, `ok` being the outcome of the frame's
verification; the other commands by `exec_raised_of_ne_acqInstr`. -/
theorem advisoryEventsInOrder : Obligations.AdvisoryEventsInOrder := by
  refine ⟨fun a s => ?_, fun i s t hi h => exec_raised_of_ne_acqInstr hi h⟩
  refine ⟨_, s.linkVerified.ok, exec_acq_eq a s, ?_, rfl, ?_,
    verifyAndStrip_ok_iff _ _, ?_, rfl⟩
  · simp [State.linkAdvisories]
  · cases a <;> rfl
  · rintro (h | h | h) <;> simp [h]

end Sys2Proof.Machine
end

section
/-! Proofs about the encodings, beyond the family 30_encoding.md: a receiver recovers the word of a
telemetry frame (R172), decode and encode agree (R70, R71), and the layout of the packed word (R80,
R81). -/

namespace Sys2Proof.Machine

/-! ### The receiver (R172) -/

/-- A receiver reads each rendered digit back, in either case. -/
@[simp] theorem digitValue_hexDigit (h : HexCase) (d : BitVec 4) :
    digitValue (hexDigit h d) = some d.toNat := by
  cases h <;> revert d <;> decide

/-- The `n` lowest digits of `v`, read after a number `acc`, are appended to it. -/
theorem parseDigits_hexDigits {w : Nat} (h : HexCase) (v : BitVec w) (n acc : Nat) :
    parseDigits acc (hexDigits h v n) = some (acc * 16 ^ n + v.toNat % 16 ^ n) := by
  induction n generalizing acc with
  | zero => simp [hexDigits, parseDigits, Nat.mod_one]
  | succ n ih =>
    have hnibble : (nibbleAt v n).toNat = v.toNat / 16 ^ n % 16 := by
      rw [nibbleAt, BitVec.extractLsb'_toNat, Nat.shiftRight_eq_div_pow, Nat.pow_mul]
    simp only [hexDigits, parseDigits, digitValue_hexDigit, ih, hnibble, Nat.mod_pow_succ]
    ring_nf

/-- The 15 digits after the opening byte of a frame are those of the word (R82). -/
theorem render_dataDigits (h : HexCase) (w : BitVec 64) (n : Byte) :
    ((render h w n).drop 1).take 15 = hexDigits h w 15 := rfl

/-- The two digits after them are those of the CRC-8 (R82). -/
theorem render_crcDigits (h : HexCase) (w : BitVec 64) (n : Byte) :
    ((render h w n).drop 16).take 2 = hexDigits h n 2 := rfl

/-- A frame of a 60-bit word is accepted exactly with the digits of the word's CRC-8, and then gives
back the word (R172). -/
theorem receive_render (h : HexCase) {w : BitVec 64} (hw : w.toNat < 2 ^ 60) (n : Byte) :
    receive (render h w n) = if crc8 w = n then some w else none := by
  have hdata : w.toNat % 16 ^ 15 = w.toNat := Nat.mod_eq_of_lt hw
  have hcrc : n.toNat % 16 ^ 2 = n.toNat := Nat.mod_eq_of_lt n.isLt
  simp only [receive, render_dataDigits, render_crcDigits, parseDigits_hexDigits, hdata, hcrc,
    Nat.zero_mul, Nat.zero_add, BitVec.ofNat_toNat, BitVec.setWidth_eq, BitVec.toNat_inj]

/-- Settles O57: both parts are the two branches of `receive_render`. -/
theorem receiverRecoversTheWord : Obligations.ReceiverRecoversTheWord := by
  intro h w hw
  refine ⟨?_, fun n hn => ?_⟩
  · rw [receive_render h hw, if_pos rfl]
  · rw [receive_render h hw, if_neg hn.symm]

/-- Settles O2: a byte that decodes is the encoding of its command, and every command is well
formed. -/
theorem decodeAndEncodeAgree : Obligations.DecodeAndEncodeAgree := by
  refine ⟨fun i _ => decode_encode i, fun b i h => ⟨(decode_eq_ok_iff.1 h).symm, ?_⟩⟩
  obtain ⟨hwellFormed, -⟩ := encodingStatement i
  exact hwellFormed

/-! ### The packed word (R80, R81, R166) -/

/-- A field below another field's place is added to it. -/
theorem or_field_toNat {x y : BitVec 64} {f k : Nat} (hx : x.toNat = f * 2 ^ k)
    (hy : y.toNat < 2 ^ k) : (x ||| y).toNat = f * 2 ^ k + y.toNat := by
  rw [BitVec.toNat_or, hx, ← Nat.shiftLeft_eq, Nat.shiftLeft_add_eq_or_of_lt hy]

/-- A field moved to its place, where it fits in 64 bits. -/
theorem shifted_field_toNat {n : Nat} (x : BitVec n) {k : Nat} (h : n + k ≤ 64) :
    (x.zeroExtend 64 <<< k).toNat = x.toNat * 2 ^ k := by
  have hlt : x.toNat * 2 ^ k < 2 ^ 64 :=
    calc x.toNat * 2 ^ k < 2 ^ n * 2 ^ k := Nat.mul_lt_mul_of_pos_right x.isLt (Nat.two_pow_pos k)
      _ = 2 ^ (n + k) := (Nat.pow_add ..).symm
      _ ≤ 2 ^ 64 := Nat.pow_le_pow_right (by decide) h
  have hx : x.toNat < 2 ^ 64 := x.isLt.trans_le (Nat.pow_le_pow_right (by decide) (by omega))
  rw [BitVec.toNat_shiftLeft, BitVec.toNat_setWidth_of_le (by omega), Nat.shiftLeft_eq,
    Nat.mod_eq_of_lt hlt]

/-- The low 12 bits of a smoothed value, as the packed word carries them (R80). -/
theorem low12_toNat (x : Word) : (x.extractLsb' 0 12).toNat = x.toNat % 2 ^ 12 := by
  rw [BitVec.extractLsb'_toNat, Nat.shiftRight_zero]

/-- The packed word is the sum of its fields at their places (R80). -/
theorem pack_toNat (e a v c : Word) (s : BitVec 2) :
    (pack e a v c s).toNat = e.toNat * 2 ^ 44 + a.toNat * 2 ^ 28 + (v.toNat % 2 ^ 12) * 2 ^ 16 +
      (c.toNat % 2 ^ 12) * 2 ^ 4 + s.toNat := by
  have hs : (s.zeroExtend 64).toNat = s.toNat := BitVec.toNat_setWidth_of_le (by decide)
  have hslt := s.isLt
  have halt := a.isLt
  have hc := or_field_toNat (shifted_field_toNat (c.extractLsb' 0 12) (k := 4) (by decide))
    (y := s.zeroExtend 64) (by omega)
  rw [low12_toNat, hs] at hc
  have hv := or_field_toNat (shifted_field_toNat (v.extractLsb' 0 12) (k := 16) (by decide))
    (by rw [hc]; omega)
  rw [low12_toNat, hc] at hv
  have ha := or_field_toNat (shifted_field_toNat a (k := 28) (by decide)) (by rw [hv]; omega)
  rw [hv] at ha
  have he := or_field_toNat (shifted_field_toNat e (k := 44) (by decide)) (by rw [ha]; omega)
  rw [ha] at he
  simp only [pack, BitVec.or_assoc, he]
  omega

/-- Settles O54: the sum of the fields, from which each field is a quotient modulo its width. -/
theorem packedWordLayout : Obligations.PackedWordLayout := by
  intro e a v c s
  have hsum := pack_toNat e a v c s
  have he := e.isLt
  have ha := a.isLt
  have hs := s.isLt
  refine ⟨hsum, ?_, ?_, ?_, ?_, ?_, ?_, ?_⟩
  all_goals
    apply BitVec.eq_of_toNat_eq
    simp only [BitVec.extractLsb'_toNat, Nat.shiftRight_eq_div_pow, hsum, BitVec.toNat_ofNat,
      BitVec.ofNat_eq_ofNat]
    omega

end Sys2Proof.Machine
end

section
/-! Proofs about the checksums, beyond the families 40_crc6_validator.md and
44_crc8_frame_checksum.md: each table form is its bit-serial form (R101, R162), by cutting the
serial loop into chunks and the linearity of one chunk; and the length of a CRC-8 operand (R161). -/

namespace Sys2Proof.Machine

/-! ### The serial CRC-6 loop (R101) -/

/-- A bit fed in is added to the top bit of the register before a step of the construction (R52,
R101). -/
theorem crc6Step_eq_tableStep6 (r : BitVec 6) (b : Bool) :
    crc6Step r b = tableStep6 (r ^^^ if b then 0x20 else 0) := by
  revert r b; decide

/-- One serial step is linear in the register and the bit together. -/
theorem crc6Step_xor (r q : BitVec 6) (a b : Bool) :
    crc6Step (r ^^^ q) (a ^^ b) = crc6Step r a ^^^ crc6Step q b := by
  have hbit : (if a ^^ b then (0x20 : BitVec 6) else 0) =
      (if a then 0x20 else 0) ^^^ (if b then 0x20 else 0) := by
    cases a <;> cases b <;> rfl
  simp only [crc6Step_eq_tableStep6, ← tableStep6_xor, hbit]
  ac_rfl

/-- The serial loop is linear in the register and the bits together (R101, R108). -/
theorem crc6Bits_xor {w : Nat} (x y : BitVec w) (n : Nat) (r q : BitVec 6) :
    crc6Bits (x ^^^ y) n (r ^^^ q) = crc6Bits x n r ^^^ crc6Bits y n q := by
  induction n generalizing r q with
  | zero => rfl
  | succ n ih => rw [crc6Bits, BitVec.getLsbD_xor, crc6Step_xor, ih, crc6Bits, crc6Bits]

/-- The loop over `n + k` bits is the loop over the upper `k` bits, then over the lower `n`. -/
theorem crc6Bits_add {w : Nat} (v : BitVec w) (n k : Nat) (r : BitVec 6) :
    crc6Bits v (n + k) r = crc6Bits v n (crc6Bits (v.extractLsb' n k) k r) := by
  suffices h : ∀ m ≤ k, ∀ r, crc6Bits v (n + m) r =
      crc6Bits v n (crc6Bits (v.extractLsb' n k) m r) from h k le_rfl r
  intro m
  induction m with
  | zero => exact fun _ _ => rfl
  | succ m ih =>
    intro hm r
    have hbit : (v.extractLsb' n k).getLsbD m = v.getLsbD (n + m) := by
      simp [show m < k by omega]
    rw [← Nat.add_assoc, crc6Bits, ih (by omega), crc6Bits, hbit]

/-- Six serial steps over a chunk are one step of the table form (R100, R101). -/
theorem crc6Bits_six (c r : BitVec 6) : crc6Bits c 6 r = readT6 (r ^^^ c) := by
  have hregister : ∀ r : BitVec 6, crc6Bits (0 : BitVec 6) 6 r = readT6 r := by decide
  have hchunk : ∀ c : BitVec 6, crc6Bits c 6 0 = readT6 c := by decide
  calc crc6Bits c 6 r
      = crc6Bits ((0 : BitVec 6) ^^^ c) 6 (r ^^^ 0) := by simp
    _ = readT6 (r ^^^ c) := by rw [crc6Bits_xor, hregister, hchunk, readT6_xor]

/-- The serial loop takes a chunk of six bits at a time. -/
theorem crc6Bits_add_six {w : Nat} (v : BitVec w) (n : Nat) (r : BitVec 6) :
    crc6Bits v (n + 6) r = crc6Bits v n (readT6 (r ^^^ v.extractLsb' n 6)) := by
  rw [crc6Bits_add, crc6Bits_six]

/-- Settles O21: the 18 bits of a payload are three chunks, most significant first. -/
theorem crc6TableFormIsSerialForm : Obligations.Crc6TableFormIsSerialForm := by
  intro init p
  calc crc6 init p
      = readT6 (readT6 (readT6 (init ^^^ payloadChunk p 2) ^^^ payloadChunk p 1) ^^^
          payloadChunk p 0) := by simp only [crc6, BitVec.xor_comm]
    _ = crc6Bits p (0 + 6 + 6 + 6) init := by simp only [crc6Bits_add_six]; rfl

/-- Settles O22: both parts are `crc6_xor` with a starting value or an operand 0. -/
theorem crc6IsLinear : Obligations.Crc6IsLinear := by
  refine ⟨fun p q => ?_, fun init p => ?_⟩
  · simpa using crc6_xor 0 0 p q
  · simpa using crc6_xor init 0 0 p

/-- No entry of the table but the first is 0, so that a nonzero register stays nonzero. -/
theorem readT6_eq_zero_iff : ∀ r : BitVec 6, readT6 r = 0 ↔ r = 0 := by decide

/-- The loop over a whole frame runs over its payload, and then over its CRC as one chunk (R106). -/
theorem crc6Bits_frame (init : BitVec 6) (f : BitVec 24) :
    crc6Bits f 24 init = readT6 (crc6 init (framePayload f) ^^^ frameCrc f) := by
  rw [crc6TableFormIsSerialForm]
  calc crc6Bits f (6 + 18) init
      = crc6Bits f (0 + 6) (crc6Bits (framePayload f) 18 init) := crc6Bits_add f 6 18 init
    _ = readT6 (crc6Bits (framePayload f) 18 init ^^^ frameCrc f) := crc6Bits_add_six f 0 _

/-- Settles O26: the register ends at 0 exactly when the CRC chunk cancels the recomputed CRC. -/
theorem frameVerifiesIffResidueIsZero : Obligations.FrameVerifiesIffResidueIsZero := by
  intro init f
  rw [verifyAndStrip_ok_iff, crc6Bits_frame, readT6_eq_zero_iff]
  exact BitVec.xor_eq_zero_iff.symm

/-- Settles O19: the lemma on which the linearity of the table rests. -/
theorem tableT6IsSixSteps : Obligations.TableT6IsSixSteps := readT6_eq_tableStep6

/-! ### The serial CRC-8 loop (R162) -/

/-- Settles O27, entry by entry. -/
theorem tableT8IsEightSteps : Obligations.TableT8IsEightSteps := by
  unfold Obligations.TableT8IsEightSteps
  decide

theorem tableStep8_xor (a b : Byte) : tableStep8 (a ^^^ b) = tableStep8 a ^^^ tableStep8 b := by
  have hfeedback (x y : Bool) : (if x ^^ y then (0x9B : Byte) else 0) =
      (if x then 0x9B else 0) ^^^ (if y then 0x9B else 0) := by
    cases x <;> cases y <;> rfl
  rw [tableStep8, BitVec.shiftLeft_xor_distrib, BitVec.getLsbD_xor, hfeedback, tableStep8,
    tableStep8]
  ac_rfl

theorem readT8_xor (a b : Byte) : readT8 (a ^^^ b) = readT8 a ^^^ readT8 b := by
  simp only [tableT8IsEightSteps _, tableStep8_xor]

/-- A bit fed in is added to the top bit of the register before a step of the construction (R53,
R162). -/
theorem crc8Step_eq_tableStep8 (r : Byte) (b : Bool) :
    crc8Step r b = tableStep8 (r ^^^ if b then 0x80 else 0) := by
  revert r b; decide

/-- One serial step is linear in the register and the bit together. -/
theorem crc8Step_xor (r q : Byte) (a b : Bool) :
    crc8Step (r ^^^ q) (a ^^ b) = crc8Step r a ^^^ crc8Step q b := by
  have hbit : (if a ^^ b then (0x80 : Byte) else 0) =
      (if a then 0x80 else 0) ^^^ (if b then 0x80 else 0) := by
    cases a <;> cases b <;> rfl
  simp only [crc8Step_eq_tableStep8, ← tableStep8_xor, hbit]
  ac_rfl

/-- The serial loop is linear in the register and the bits together. -/
theorem crc8Bits_xor (x y : BitVec 64) (n : Nat) (r q : Byte) :
    crc8Bits (x ^^^ y) n (r ^^^ q) = crc8Bits x n r ^^^ crc8Bits y n q := by
  induction n generalizing r q with
  | zero => rfl
  | succ n ih => rw [crc8Bits, BitVec.getLsbD_xor, crc8Step_xor, ih, crc8Bits, crc8Bits]

/-- The loop over `n + k` bits is the loop over the upper `k` bits, then over the lower `n`. -/
theorem crc8Bits_add (d : BitVec 64) (n k : Nat) (r : Byte) :
    crc8Bits d (n + k) r = crc8Bits d n (crc8Bits ((d.extractLsb' n k).zeroExtend 64) k r) := by
  suffices h : ∀ m ≤ k, ∀ r, crc8Bits d (n + m) r =
      crc8Bits d n (crc8Bits ((d.extractLsb' n k).zeroExtend 64) m r) from h k le_rfl r
  intro m
  induction m with
  | zero => exact fun _ _ => rfl
  | succ m ih =>
    intro hm r
    have hbit : ((d.extractLsb' n k).zeroExtend 64).getLsbD m = d.getLsbD (n + m) := by
      by_cases h64 : m < 64
      · simp [h64, show m < k by omega]
      · simp [h64, BitVec.getLsbD_of_ge d (n + m) (by omega)]
    rw [← Nat.add_assoc, crc8Bits, ih (by omega), crc8Bits, hbit]

theorem crc8Step_eq (r : Byte) (b : Bool) :
    crc8Step r b = (r <<< 1) ^^^ (if r.getLsbD 7 ^^ b then 0x9B else 0) := by
  unfold crc8Step
  split <;> simp

/-- Eight steps with no bit fed in are the construction of the table (R53). -/
theorem crc8Bits_zero_eight (r : Byte) : crc8Bits 0 8 r = readT8 r := by
  have hstep (q : Byte) : crc8Step q false = tableStep8 q := by
    simpa using crc8Step_eq_tableStep8 q false
  simp [crc8Bits, hstep, tableT8IsEightSteps r]

/-- Feeding the low `n` bits of a byte one by one is starting from all of them at the top of the
register: each step takes one of them out there. -/
theorem crc8Bits_from_zero (c : Byte) {n k : Nat} (hn : n + k = 8) :
    crc8Bits (c.zeroExtend 64) n 0 = crc8Bits 0 n (c <<< k) := by
  induction n generalizing k with
  | zero => rw [show k = 8 by omega, BitVec.shiftLeft_eq_zero le_rfl]; rfl
  | succ n ih =>
    have hbit : (c.zeroExtend 64).getLsbD n = c.getLsbD n := by
      simp [show n < 64 by omega]
    have htop : (c <<< k).getLsbD 7 = c.getLsbD n := by
      rw [BitVec.getLsbD_shiftLeft, show 7 - k = n by omega]
      simp [show ¬ 7 < k by omega]
    have hstep : crc8Step (c <<< k) false = (c <<< (k + 1)) ^^^ crc8Step 0 (c.getLsbD n) := by
      rw [crc8Step_eq, crc8Step_eq, htop, ← BitVec.shiftLeft_add]
      simp
    calc crc8Bits (c.zeroExtend 64) (n + 1) 0
        = crc8Bits (c.zeroExtend 64 ^^^ 0) n (0 ^^^ crc8Step 0 (c.getLsbD n)) := by
          rw [crc8Bits, hbit, BitVec.ofNat_eq_ofNat, BitVec.ofNat_eq_ofNat, BitVec.xor_zero,
            BitVec.zero_xor]
      _ = crc8Bits (0 ^^^ 0) n ((c <<< (k + 1)) ^^^ crc8Step 0 (c.getLsbD n)) := by
          rw [crc8Bits_xor, ih (k := k + 1) (by omega), ← crc8Bits_xor]
      _ = crc8Bits 0 (n + 1) (c <<< k) := by
          rw [crc8Bits, BitVec.ofNat_eq_ofNat, BitVec.getLsbD_zero, hstep, BitVec.xor_zero]

/-- Eight serial steps over a byte are one step of the table form (R160, R162). -/
theorem crc8Bits_eight (c r : Byte) : crc8Bits (c.zeroExtend 64) 8 r = readT8 (r ^^^ c) := by
  calc crc8Bits (c.zeroExtend 64) 8 r
      = crc8Bits (0 ^^^ c.zeroExtend 64) 8 (r ^^^ 0) := by simp
    _ = readT8 (r ^^^ c) := by
      rw [crc8Bits_xor, crc8Bits_from_zero c (n := 8) (k := 0) rfl, BitVec.shiftLeft_zero,
        crc8Bits_zero_eight, crc8Bits_zero_eight, readT8_xor]

/-- The bytes and the bits of an operand take the register to the same value. -/
theorem crc8Bytes_eq_crc8Bits (d : BitVec 64) (k : Nat) (r : Byte) :
    crc8Bytes d k r = crc8Bits d (8 * k) r := by
  induction k generalizing r with
  | zero => rfl
  | succ k ih => rw [crc8Bytes, ih, Nat.mul_succ, crc8Bits_add, crc8Bits_eight]; rfl

/-- Settles O30: both forms take the same significant bytes. -/
theorem crc8TableFormIsSerialForm : Obligations.Crc8TableFormIsSerialForm :=
  fun d => crc8Bytes_eq_crc8Bits d (nbytes d) 0xFF

/-! ### The length of a CRC-8 operand (R84, R161) -/

theorem nbytesUpTo_le (d n : Nat) : nbytesUpTo d n ≤ n := by
  induction n with
  | zero => exact le_rfl
  | succ n ih =>
    unfold nbytesUpTo
    split
    · exact ih.trans n.le_succ
    · exact le_rfl

/-- The length holds the value, where the greatest length does. -/
theorem lt_pow_nbytesUpTo {d n : Nat} (h : d < 2 ^ (8 * n)) : d < 2 ^ (8 * nbytesUpTo d n) := by
  induction n with
  | zero => exact h
  | succ n ih =>
    unfold nbytesUpTo
    split
    · exact ih ‹_›
    · exact h

/-- No shorter length holds the value. -/
theorem nbytesUpTo_le_of_lt_pow {d m : Nat} (h : d < 2 ^ (8 * m)) (n : Nat) :
    nbytesUpTo d n ≤ m := by
  induction n with
  | zero => exact m.zero_le
  | succ n ih =>
    unfold nbytesUpTo
    split
    · exact ih
    · next hge =>
      have hlt := (Nat.pow_lt_pow_iff_right (by decide : 1 < 2)).1 ((Nat.not_lt.1 hge).trans_lt h)
      omega

theorem lt_pow_nbytes (d : BitVec 64) : d.toNat < 2 ^ (8 * nbytes d) :=
  lt_pow_nbytesUpTo d.isLt

theorem nbytes_le_iff (d : BitVec 64) (m : Nat) : nbytes d ≤ m ↔ d.toNat < 2 ^ (8 * m) :=
  ⟨fun h => (lt_pow_nbytes d).trans_le (Nat.pow_le_pow_right (by decide) (by omega)),
    fun h => nbytesUpTo_le_of_lt_pow h 8⟩

theorem byteAt_toNat (d : BitVec 64) (j : Nat) :
    (byteAt d j).toNat = d.toNat / 2 ^ (8 * j) % 2 ^ 8 := by
  rw [byteAt, BitVec.extractLsb'_toNat, Nat.shiftRight_eq_div_pow]

/-- The bytes at and above the length are 0. -/
theorem byteAt_eq_zero_of_nbytes_le {d : BitVec 64} {j : Nat} (h : nbytes d ≤ j) :
    byteAt d j = 0 := by
  apply BitVec.eq_of_toNat_eq
  rw [byteAt_toNat, Nat.div_eq_of_lt ((nbytes_le_iff d j).1 h)]
  rfl

/-- The highest byte of the length is not 0: the length is the least. -/
theorem byteAt_ne_zero_of_nbytes_eq_succ {d : BitVec 64} {m : Nat} (h : nbytes d = m + 1) :
    byteAt d m ≠ 0 := by
  have hge : 2 ^ (8 * m) ≤ d.toNat := by
    rw [← Nat.not_lt, ← nbytes_le_iff]
    omega
  have hlt : d.toNat / 2 ^ (8 * m) < 2 ^ 8 := by
    rw [Nat.div_lt_iff_lt_mul (Nat.two_pow_pos _), ← Nat.pow_add, Nat.add_comm, ← Nat.mul_succ,
      Nat.succ_eq_add_one, ← h]
    exact lt_pow_nbytes d
  have hpos : 0 < d.toNat / 2 ^ (8 * m) := Nat.div_pos hge (Nat.two_pow_pos _)
  intro hzero
  have hbyte := byteAt_toNat d m
  rw [hzero, Nat.mod_eq_of_lt hlt] at hbyte
  exact hpos.ne hbyte

/-- Settles O28: the least length by `nbytes_le_iff`, its bytes, and the five values. -/
theorem nbytesIsTheLeastLength : Obligations.NbytesIsTheLeastLength := by
  refine ⟨fun d => ⟨lt_pow_nbytes d, fun m => (nbytes_le_iff d m).2,
    fun j _ => byteAt_eq_zero_of_nbytes_le, fun hd => ?_⟩, by decide⟩
  have hpos : 1 ≤ nbytes d := by
    by_contra hzero
    have hlt := (nbytes_le_iff d 0).1 (by omega)
    exact hd (BitVec.eq_of_toNat_eq (Nat.lt_one_iff.1 hlt))
  exact ⟨hpos, nbytesUpTo_le _ 8, byteAt_ne_zero_of_nbytes_eq_succ (by omega)⟩

end Sys2Proof.Machine
end

section
/-! What each command can do, said once for the proofs that follow: the ten commands by the shared
operation behind them, the state in which a front-end read ends (R132, R134, R143), and what an
operation leaves as it was. -/

namespace Sys2Proof.Machine

/-! ### The ten commands by their shared operation -/

/-- The three commands that compute a checksum from `DIN`. -/
def IsChecksumCommand (i : Instr) : Prop := i = .crc6 ∨ i = .vfy6 ∨ i = .crc8

/-- A statement about every command, from the checksum commands, `FRAME`, and the acquisitions, the
reads and the filter calls by their axis or channel. -/
theorem cases_by_operation {P : Instr → Prop} (checksum : ∀ i, IsChecksumCommand i → P i)
    (frame : P .frame) (acq : ∀ a, P (acqInstr a)) (rd : ∀ c, P (rdInstr c))
    (flt : ∀ c, P (fltInstr c)) (i : Instr) : P i := by
  cases i with
  | crc6 => exact checksum _ (.inl rfl)
  | vfy6 => exact checksum _ (.inr (.inl rfl))
  | crc8 => exact checksum _ (.inr (.inr rfl))
  | frame => exact frame
  | acqEl => exact acq .el
  | acqAz => exact acq .az
  | rdV => exact rd .v
  | rdI => exact rd .i
  | fltV => exact flt .v
  | fltI => exact flt .i

/-- A checksum command writes its results and `BUSY` (R102, R104, R163). -/
theorem exec_checksum_next {i : Instr} {s t : State} (hi : IsChecksumCommand i)
    (h : exec i s = .next t) :
    t = { s with rPay := t.rPay, rCrc := t.rCrc, fOk := t.fOk, busy := false } := by
  rcases hi with rfl | rfl | rfl
  · rw [exec_crc6] at h; cases h; rfl
  · rw [exec_vfy6] at h; cases h; rfl
  · rw [exec_crc8] at h; cases h; rfl

/-- The word that `FRAME` packs (R166, R169). -/
def State.frameWord (s : State) : BitVec 64 :=
  pack s.angleEl.angle s.angleAz.angle s.chanV.smooth s.chanI.smooth s.switchAnswer

/-- The external events of `FRAME`, in order (R169). -/
def State.frameEvents (s : State) : List Event :=
  [.sw s.switchAnswer, .tx (render s.cfg.hexCase s.frameWord (crc8 s.frameWord))]

/-- The whole next state of `FRAME` (R170). -/
theorem exec_frame_eq (s : State) :
    exec .frame s = .next { s with
      rWord := s.frameWord, rCrc := crc8 s.frameWord, busy := false
      switchAnswers := s.switchAnswers.tail, draws := s.draws + 1
      trace := s.trace ++ s.frameEvents } := by
  rw [exec_frame, State.frame_eq]
  rfl

/-! ### The end of a front-end read -/

/-- The code that the `k`-th conversion from here brings, where it is answered. -/
def State.code (s : State) (k : Nat) : Word := (s.convAnswer k).getD 0

theorem State.code_eq_of_convAnswer {s : State} {k : Nat} {code : Word}
    (h : s.convAnswer k = some code) : s.code k = code := by
  rw [State.code, h, Option.getD_some]

theorem State.code_congr {s u : State} {k : Nat} (h : s.convAnswer k = u.convAnswer k) :
    s.code k = u.code k := by
  rw [State.code, h, State.code]

theorem State.convAnswer_of_isSome {s : State} {k : Nat} (h : (s.convAnswer k).isSome = true) :
    s.convAnswer k = some (s.code k) := by
  obtain ⟨code, hcode⟩ := Option.isSome_iff_exists.1 h
  rw [State.code_eq_of_convAnswer hcode, hcode]

/-- The state in which a read of a channel completes, its conversions answered with `codes` (R132,
R134). -/
def State.completedRead (s : State) (c : Channel) (codes : Nat → Word) : State :=
  match c with
  | .v => { s.voltageWait with
      afePhase := .idle
      chanV := { s.chanV with raw := scaleV s.cfg (codes 0) }
      trace := s.trace ++ [.select chVolt refVolt, .convert (codes 0)] }
  | .i => { s.currentWait (codes 0) with
      afePhase := .idle
      chanI := { s.chanI with
        raw := removeOffset
          (scaleI s.cfg (codes 1) (coeffOf s.cfg (railEst s.cfg (codes 0)))) s.cfg.iOffset }
      trace := s.trace ++ [.select chSupply refLow, .convert (codes 0), .select chCurr refRail,
        .convert (codes 1)] }

/-- A completed read depends on as many codes as it makes conversions. -/
theorem State.completedRead_congr (s : State) {c : Channel} {codes codes' : Nat → Word}
    (h : ∀ k < conversionsOf c, codes k = codes' k) :
    s.completedRead c codes = s.completedRead c codes' := by
  cases c with
  | v => simp only [State.completedRead, h 0 (by decide)]
  | i => simp only [State.completedRead, h 0 (by decide), h 1 (by decide)]

/-- The state in which a read of a channel waits for ever for a conversion (R143). -/
def State.hungRead (s : State) : Channel → State
  | .v => s.voltageWait
  | .i => if s.convAnswer 0 = none then s.supplyWait else s.currentWait (s.code 0)

/-- A statement about a read that hangs, from the three conversions it can wait for. -/
theorem State.hungRead_cases {P : Channel → State → Prop} (s : State) (voltage : P .v s.voltageWait)
    (supply : P .i s.supplyWait) (current : P .i (s.currentWait (s.code 0))) (c : Channel) :
    P c (s.hungRead c) := by
  cases c with
  | v => exact voltage
  | i =>
    by_cases h : s.convAnswer 0 = none
    · simpa [State.hungRead, h] using supply
    · simpa [State.hungRead, h] using current

theorem State.readChannel_of_answered {s : State} {c : Channel} (h : s.conversionsAnswered c) :
    s.readChannel c = .done (s.completedRead c s.code) := by
  cases c with
  | v =>
    exact State.readVoltage_some (State.convAnswer_of_isSome (s.conversionsAnswered_v.1 h))
  | i =>
    obtain ⟨hS, hI⟩ := s.conversionsAnswered_i.1 h
    exact State.readCurrent_some_some (State.convAnswer_of_isSome hS)
      (State.convAnswer_of_isSome hI)

theorem State.readChannel_of_unanswered {s : State} {c : Channel} (h : ¬ s.conversionsAnswered c) :
    s.readChannel c = .hung (s.hungRead c) := by
  cases c with
  | v =>
    have h0 : s.convAnswer 0 = none := by simpa [State.conversionsAnswered_v] using h
    exact State.readVoltage_none h0
  | i =>
    cases h0 : s.convAnswer 0 with
    | none =>
      rw [State.hungRead, if_pos h0]
      exact State.readCurrent_none h0
    | some codeS =>
      have h1 : s.convAnswer 1 = none := by simpa [State.conversionsAnswered_i, h0] using h
      rw [State.hungRead, if_neg (by simp [h0]), State.code_eq_of_convAnswer h0]
      exact State.readCurrent_some_none h0 h1

/-- `RD c` with its conversions answered. -/
theorem exec_rd_of_answered {c : Channel} {s : State} (h : s.conversionsAnswered c) :
    exec (rdInstr c) s = .next (s.take.completedRead c s.code).complete :=
  exec_rd_of_done (State.readChannel_of_answered (s := s.take) h)

/-- `RD c` with a conversion unanswered. -/
theorem exec_rd_of_unanswered {c : Channel} {s : State} (h : ¬ s.conversionsAnswered c) :
    exec (rdInstr c) s = .next (s.take.hungRead c) :=
  exec_rd_of_hung (State.readChannel_of_unanswered (s := s.take) h)

/-- `FLT c` with its conversions answered, its index in the buffer. -/
theorem exec_flt_of_answered {c : Channel} {s : State} (hidx : (s.chan c).fidx < s.cfg.filterN)
    (h : s.conversionsAnswered c) :
    exec (fltInstr c) s = .next ((s.take.completedRead c s.code).complete.average c) :=
  exec_flt_of_done hidx (State.readChannel_of_answered (s := s.take) h)

/-- `FLT c` with a conversion unanswered, its index in the buffer. -/
theorem exec_flt_of_unanswered {c : Channel} {s : State} (hidx : (s.chan c).fidx < s.cfg.filterN)
    (h : ¬ s.conversionsAnswered c) : exec (fltInstr c) s = .next (s.take.hungRead c) :=
  exec_flt_of_hung hidx (State.readChannel_of_unanswered (s := s.take) h)

/-- The next state of `RD c`: the read completed, or waiting. -/
theorem exec_rd_next {c : Channel} {s t : State} (h : exec (rdInstr c) s = .next t) :
    (s.conversionsAnswered c ∧ t = (s.take.completedRead c s.code).complete) ∨
      (¬ s.conversionsAnswered c ∧ t = s.take.hungRead c) := by
  by_cases hans : s.conversionsAnswered c
  · rw [exec_rd_of_answered hans] at h
    exact .inl ⟨hans, by cases h; rfl⟩
  · rw [exec_rd_of_unanswered hans] at h
    exact .inr ⟨hans, by cases h; rfl⟩

/-- Settles O49: the filter's own test of its index. -/
theorem filterStopsOnlyOutsideTheBuffer : Obligations.FilterStopsOnlyOutsideTheBuffer := by
  refine fun c s => ⟨fun hge => ?_, fun hlt => ?_⟩
  · rw [exec_flt, State.filterStep_of_ge (by simpa using hge), State.take_chan]
  · rw [exec_flt, State.filterStep_of_lt (by simpa using hlt)]
    exact ⟨_, rfl⟩

/-- A filter call that answers a next state has its index in the buffer, and is the read, completed
and averaged, or waiting. -/
theorem exec_flt_next {c : Channel} {s t : State} (h : exec (fltInstr c) s = .next t) :
    (s.chan c).fidx < s.cfg.filterN ∧
      ((s.conversionsAnswered c ∧ t = (s.take.completedRead c s.code).complete.average c) ∨
        (¬ s.conversionsAnswered c ∧ t = s.take.hungRead c)) := by
  have hidx : (s.chan c).fidx < s.cfg.filterN := by
    by_contra hge
    rw [(filterStopsOnlyOutsideTheBuffer c s).1 (Nat.not_lt.1 hge)] at h
    cases h
  by_cases hans : s.conversionsAnswered c
  · rw [exec_flt_of_answered hidx hans] at h
    exact ⟨hidx, .inl ⟨hans, by cases h; rfl⟩⟩
  · rw [exec_flt_of_unanswered hidx hans] at h
    exact ⟨hidx, .inr ⟨hans, by cases h; rfl⟩⟩

/-! ### What an analog operation leaves as it was -/

/-- `t` is `s` but for what an operation of the front end on channel `c` may write: the channel, the
ranging registers (by the current channel), the converter's selection, the sequencing registers, the
answers taken and the record of events. -/
structure State.OnlyAnalog (s : State) (c : Channel) (t : State) : Prop where
  rest : t = { s with
    chanV := t.chanV, chanI := t.chanI, rail := t.rail, coeff := t.coeff, adcMux := t.adcMux
    adcRef := t.adcRef, busy := t.busy, afePhase := t.afePhase, convAnswers := t.convAnswers
    draws := t.draws, trace := t.trace }
  other : ∀ d, d ≠ c → t.chan d = s.chan d
  ranging : c = .v → t.rail = s.rail ∧ t.coeff = s.coeff

theorem State.onlyAnalog_completedRead (s : State) (c : Channel) (codes : Nat → Word) :
    s.OnlyAnalog c (s.take.completedRead c codes).complete := by
  cases c with
  | v => exact ⟨rfl, fun | .v, hd => absurd rfl hd | .i, _ => rfl, fun _ => ⟨rfl, rfl⟩⟩
  | i => exact ⟨rfl, fun | .i, hd => absurd rfl hd | .v, _ => rfl, nofun⟩

theorem State.onlyAnalog_hungRead (s : State) (c : Channel) :
    s.OnlyAnalog c (s.take.hungRead c) := by
  refine s.take.hungRead_cases (P := fun c t => s.OnlyAnalog c t) ?_ ?_ ?_ c
  · exact ⟨rfl, fun | .v, hd => absurd rfl hd | .i, _ => rfl, fun _ => ⟨rfl, rfl⟩⟩
  · exact ⟨rfl, fun | .i, hd => absurd rfl hd | .v, _ => rfl, nofun⟩
  · exact ⟨rfl, fun | .i, hd => absurd rfl hd | .v, _ => rfl, nofun⟩

theorem State.OnlyAnalog.average {s t : State} {c : Channel} (h : s.OnlyAnalog c t) :
    s.OnlyAnalog c (t.average c) := by
  obtain ⟨hrest, hother, hranging⟩ := h
  refine ⟨?_, fun d hd => (t.setChan_chan_other _ hd).trans (hother d hd), fun hc => ?_⟩
  · rw [hrest]
    cases c <;> rfl
  · cases c <;> exact hranging hc

theorem exec_rd_onlyAnalog {c : Channel} {s t : State} (h : exec (rdInstr c) s = .next t) :
    s.OnlyAnalog c t := by
  rcases exec_rd_next h with ⟨-, rfl⟩ | ⟨-, rfl⟩
  · exact s.onlyAnalog_completedRead c _
  · exact s.onlyAnalog_hungRead c

theorem exec_flt_onlyAnalog {c : Channel} {s t : State} (h : exec (fltInstr c) s = .next t) :
    s.OnlyAnalog c t := by
  rcases exec_flt_next h with ⟨-, ⟨-, rfl⟩ | ⟨-, rfl⟩⟩
  · exact (s.onlyAnalog_completedRead c _).average
  · exact s.onlyAnalog_hungRead c

section
variable {s t : State} {c : Channel} (h : s.OnlyAnalog c t)
include h

theorem State.OnlyAnalog.sameAngles : s.SameAngles t :=
  .of_fields (congrArg State.angleEl h.rest :) (congrArg State.angleAz h.rest :)
    (congrArg State.sr24 h.rest :)

theorem State.OnlyAnalog.comm : t.comm = s.comm := (congrArg State.comm h.rest :)

theorem State.OnlyAnalog.sameLink : s.SameLink t :=
  .of_fields (congrArg State.selEl h.rest :) (congrArg State.selAz h.rest :)
    (congrArg State.lnkPhase h.rest :)

theorem State.OnlyAnalog.sameHostSide : s.SameHostSide t :=
  ⟨(congrArg State.cfg h.rest :), (congrArg State.din h.rest :),
    (congrArg State.hostQueue h.rest :)⟩

/-- The results of the other commands are as before (R104, R163, R170). -/
theorem State.OnlyAnalog.results :
    t.rPay = s.rPay ∧ t.rCrc = s.rCrc ∧ t.fOk = s.fOk ∧ t.rWord = s.rWord :=
  ⟨(congrArg State.rPay h.rest :), (congrArg State.rCrc h.rest :), (congrArg State.fOk h.rest :),
    (congrArg State.rWord h.rest :)⟩

/-- The link, the switches and the advisory events are as before. -/
theorem State.OnlyAnalog.outside :
    t.linkAnswers = s.linkAnswers ∧ t.switchAnswers = s.switchAnswers ∧ t.raised = s.raised :=
  ⟨(congrArg State.linkAnswers h.rest :), (congrArg State.switchAnswers h.rest :),
    (congrArg State.raised h.rest :)⟩

end

/-- A completed read writes the raw result of its channel and nothing else of it (R132, R134). -/
theorem State.completedRead_chan (s : State) (c : Channel) (codes : Nat → Word) :
    (s.completedRead c codes).chan c =
      { s.chan c with raw := ((s.completedRead c codes).chan c).raw } := by
  cases c <;> rfl

/-- A read that hangs leaves both channels as they were (R143). -/
theorem State.hungRead_chan (s : State) (c d : Channel) : (s.hungRead c).chan d = s.chan d := by
  refine s.hungRead_cases (P := fun _ t => t.chan d = s.chan d) ?_ ?_ ?_ c <;> cases d <;> rfl

@[simp] theorem State.hungRead_busy (s : State) (c : Channel) : (s.hungRead c).busy = s.busy :=
  s.hungRead_cases (P := fun _ t => t.busy = s.busy) rfl rfl rfl c

/-- `RD c` writes of any channel the raw result alone. -/
theorem exec_rd_chan {c : Channel} {s t : State} (h : exec (rdInstr c) s = .next t) (d : Channel) :
    t.chan d = { s.chan d with raw := (t.chan d).raw } := by
  by_cases hd : d = c
  · subst d
    rcases exec_rd_next h with ⟨-, rfl⟩ | ⟨-, rfl⟩
    · simpa using s.take.completedRead_chan c s.code
    · rw [State.hungRead_chan, State.take_chan]
  · rw [(exec_rd_onlyAnalog h).other d hd]

/-- Settles O41: an analog operation on one channel, of which it writes the raw result alone. -/
theorem readFrame : Obligations.ReadFrame := by
  intro c s t h
  have hframe := exec_rd_onlyAnalog h
  have hchan := exec_rd_chan h
  obtain ⟨hpay, hcrc, hok, hword⟩ := hframe.results
  refine ⟨hframe.other, fun d => ⟨?_, ?_⟩, fun d j => ?_, hframe.ranging, hframe.sameAngles,
    .of_eq hframe.comm, hframe.sameLink, hframe.sameHostSide, hpay, hcrc, hok, hword,
    hframe.outside⟩
  · exact (congrArg AnalogChannel.smooth (hchan d) :)
  · exact (congrArg AnalogChannel.fidx (hchan d) :)
  · exact congrArg (fun g => g.fbuf.read j) (hchan d)

/-- A filter call writes one slot of its channel's buffer, the one at the old index (R150). -/
theorem State.average_slot_other (s : State) (c : Channel) {j : Nat} (hj : j ≠ (s.chan c).fidx) :
    (s.average c).slot c j = s.slot c j := by
  rw [State.slot, State.average_chan]
  exact Memory.read_write_other hj

/-- Settles O48: an analog operation on one channel, of whose buffer it writes the slot at the old
index; a call that hangs is a read that hangs. -/
theorem filterFrame : Obligations.FilterFrame := by
  intro c s t h
  have hframe := exec_flt_onlyAnalog h
  obtain ⟨hpay, hcrc, hok, hword⟩ := hframe.results
  refine ⟨hframe.other, fun d j hdj => ?_, fun hbusy => ?_, hframe.ranging, hframe.sameAngles,
    .of_eq hframe.comm, hframe.sameLink, hframe.sameHostSide, hpay, hcrc, hok, hword,
    hframe.outside⟩
  · by_cases hd : d = c
    · subst d
      have hj : j ≠ (s.chan c).fidx := hdj.resolve_left (· rfl)
      rcases exec_flt_next h with ⟨-, ⟨hans, rfl⟩ | ⟨hans, rfl⟩⟩
      · have hchan := exec_rd_chan (exec_rd_of_answered hans) c
        have hidx := congrArg AnalogChannel.fidx hchan
        rw [State.average_slot_other _ _ (by rwa [hidx])]
        exact congrArg (fun g => g.fbuf.read j) hchan
      · rw [State.slot, State.hungRead_chan, State.take_chan]
        rfl
    · rw [State.slot, hframe.other d hd]
      rfl
  · rcases exec_flt_next h with ⟨-, ⟨-, rfl⟩ | ⟨-, rfl⟩⟩
    · simp at hbusy
    · rw [State.hungRead_chan, State.take_chan]

/-! ### What the other commands leave as it was -/

/-- Settles O31: by `exec_checksum_next` only the results and `BUSY` are written, and only `VFY6`
writes `R_PAY` and `F_OK`. -/
theorem checksumCommandsFrame : Obligations.ChecksumCommandsFrame := by
  intro i s t hi h
  have hothers : i ≠ .vfy6 → t.rPay = s.rPay ∧ t.fOk = s.fOk := by
    rcases hi with rfl | rfl | rfl
    · rw [exec_crc6] at h; cases h; exact fun _ => ⟨rfl, rfl⟩
    · exact fun hne => absurd rfl hne
    · rw [exec_crc8] at h; cases h; exact fun _ => ⟨rfl, rfl⟩
  rw [exec_checksum_next hi h] at hothers ⊢
  exact ⟨.of_fields rfl rfl rfl, .of_fields rfl rfl rfl rfl rfl rfl rfl, .of_eq rfl,
    .of_fields rfl rfl rfl, ⟨rfl, rfl, rfl⟩, rfl, rfl, rfl, rfl, rfl, rfl, hothers⟩

/-- Settles O58: the next state of `exec_frame_eq`, field by field. -/
theorem frameFrame : Obligations.FrameFrame := by
  intro s t h
  rw [exec_frame_eq] at h
  cases h
  exact ⟨.of_fields rfl rfl rfl, .of_fields rfl rfl rfl rfl rfl rfl rfl, .of_eq rfl,
    .of_fields rfl rfl rfl, ⟨rfl, rfl, rfl⟩, rfl, rfl, rfl, rfl, rfl⟩

/-- Settles O34: the next state of `exec_acq_eq`, field by field. -/
theorem acquireFrame : Obligations.AcquireFrame := by
  intro a s t h
  rw [exec_acq_eq] at h
  cases h
  cases a with
  | el =>
    exact ⟨fun | .el, hb => absurd rfl hb | .az, _ => ⟨rfl, Bool.or_false _⟩,
      .of_fields rfl rfl rfl rfl rfl rfl rfl, ⟨rfl, rfl, rfl⟩, rfl, rfl, rfl, rfl, rfl⟩
  | az =>
    exact ⟨fun | .az, hb => absurd rfl hb | .el, _ => ⟨rfl, Bool.or_false _⟩,
      .of_fields rfl rfl rfl rfl rfl rfl rfl, ⟨rfl, rfl, rfl⟩, rfl, rfl, rfl, rfl, rfl⟩

end Sys2Proof.Machine
end

section
/-! Proofs about acquisitions, beyond the family 41_angle_frame_shifter.md: the steps and the error
of the angle scale (R119), the worked examples of `ACQ EL` and `ACQ AZ` (R111, R112), and a
timed-out read yields its byte like any other (R115). -/

namespace Sys2Proof.Machine

theorem angleScale_le (raw : BitVec 14) : (angleScale raw).toNat ≤ 35998 := by
  have hraw := raw.isLt
  rw [angleScale_toNat, shift_form_eq_rounded_division]
  omega

/-- Settles O38: a rounded division by 16384 whose operand rises by 36000 at each code. -/
theorem angleScaleIsStrictlyIncreasing : Obligations.AngleScaleIsStrictlyIncreasing := by
  have hscale (raw : BitVec 14) : (angleScale raw).toNat = (raw.toNat * 36000 + 8192) / 16384 := by
    rw [angleScale_toNat, shift_form_eq_rounded_division]
  refine ⟨fun a b hab => ?_, fun a => ⟨angleScale_le a, ?_⟩, by decide⟩
  · rw [hscale, hscale, ← hab]
    omega
  · rw [hscale]
    omega

/-- What an acquisition shifts in when three answers received in time are listed. -/
theorem State.link_of_listed {s : State} {b0 b1 b2 : Byte}
    (h : s.linkAnswers = [⟨b0, false⟩, ⟨b1, false⟩, ⟨b2, false⟩]) :
    frameOfBytes (s.linkByte 0) (s.linkByte 1) (s.linkByte 2) = frameOfBytes b0 b1 b2 ∧
      s.linkTimesOut 0 = false ∧ s.linkTimesOut 1 = false ∧ s.linkTimesOut 2 = false := by
  simp [State.linkByte, State.linkTimesOut, State.linkAnswer, h]

/-- Settles O33: the next state of `exec_acq_eq` on the listed answers, whose frame is verified by
evaluation. -/
theorem acquireWorkedExamples : Obligations.AcquireWorkedExamples := by
  refine fun s hinit => ⟨fun hlisted => ?_, fun hlisted => ?_⟩
  · obtain ⟨hframe, h0, h1, h2⟩ := State.link_of_listed hlisted
    have hverified : s.linkVerified = ⟨0x10000, true, 0x35⟩ := by
      rw [State.linkVerified, hframe, hinit]
      decide
    have hreading : readingOf ⟨0x10000, true, 0x35⟩ = ⟨9000, 0, false, false, true⟩ := by decide
    refine ⟨_, exec_acq_eq .el s, hframe.trans (by decide), ?_⟩
    simpa [hverified, h0, h1, h2] using hreading
  · obtain ⟨hframe, h0, h1, h2⟩ := State.link_of_listed hlisted
    have hverified : s.linkVerified = ⟨0x3FFFB, true, 0x02⟩ := by
      rw [State.linkVerified, hframe, hinit]
      decide
    have hreading : readingOf ⟨0x3FFFB, true, 0x02⟩ = ⟨35998, 2, true, true, true⟩ := by decide
    refine ⟨_, exec_acq_eq .az s, hframe.trans (by decide), ?_⟩
    simpa [hverified, h0, h1, h2] using hreading

/-- The byte that a read yields is one of the listed answers' bytes, timed out or not (R115). -/
theorem State.linkByte_eq_getD (s : State) (k : Nat) :
    s.linkByte k =
      (s.linkAnswers.map LinkAnswer.value).getD k (Config.freeLinkAnswer (s.draws + k)).value :=
  (List.getD_map _ _ _).symm

/-- Settles O35: with the same bytes both acquisitions verify the same frame. -/
theorem timeoutsDoNotChangeTheReading : Obligations.TimeoutsDoNotChangeTheReading := by
  intro a s xs ys _ hbytes
  have hbyte (k : Nat) : State.linkByte { s with linkAnswers := xs } k =
      State.linkByte { s with linkAnswers := ys } k := by
    rw [State.linkByte_eq_getD, State.linkByte_eq_getD, hbytes]
  have hverified : State.linkVerified { s with linkAnswers := xs } =
      State.linkVerified { s with linkAnswers := ys } := by
    simp only [State.linkVerified, hbyte]
  refine ⟨_, _, exec_acq_eq a _, exec_acq_eq a _, fun b => ?_, ?_, ?_, ?_, ?_, fun b => ?_, rfl,
    rfl⟩
  all_goals simp only [hverified, hbyte]
  all_goals cases a <;> cases b <;> rfl

end Sys2Proof.Machine
end

section
/-! Proofs about every command at once: which registers it can write, the events it records with the
answers they take, and where it can hang (10_state.md sections 2 to 4, 70_reset_and_hazards.md). -/

namespace Sys2Proof.Machine

/-! ### Which command writes which register -/

/-- No command writes the configuration, `DIN` or the host's actions (R72, R190). -/
theorem exec_sameHostSide {i : Instr} {s t : State} (h : exec i s = .next t) :
    s.SameHostSide t := by
  induction i using cases_by_operation with
  | checksum i hi => rw [exec_checksum_next hi h]; exact ⟨rfl, rfl, rfl⟩
  | frame => rw [exec_frame_eq] at h; cases h; exact ⟨rfl, rfl, rfl⟩
  | acq a => obtain ⟨-, -, hhost, -⟩ := acquireFrame a s t h; exact hhost
  | rd c => exact (exec_rd_onlyAnalog h).sameHostSide
  | flt c => exact (exec_flt_onlyAnalog h).sameHostSide

/-- Only the acquisitions write the readings, the select lines, `LNK_PHASE` and
CommunicationStatus. -/
theorem exec_link_side_of_ne_acq {i : Instr} {s t : State} (hi : ∀ a, i ≠ acqInstr a)
    (h : exec i s = .next t) : s.SameAngles t ∧ s.SameLink t ∧ t.comm = s.comm := by
  induction i using cases_by_operation with
  | checksum i hi' =>
    rw [exec_checksum_next hi' h]
    exact ⟨.of_fields rfl rfl rfl, .of_fields rfl rfl rfl, rfl⟩
  | frame =>
    rw [exec_frame_eq] at h
    cases h
    exact ⟨.of_fields rfl rfl rfl, .of_fields rfl rfl rfl, rfl⟩
  | acq a => exact absurd rfl (hi a)
  | rd c =>
    have hframe := exec_rd_onlyAnalog h
    exact ⟨hframe.sameAngles, hframe.sameLink, hframe.comm⟩
  | flt c =>
    have hframe := exec_flt_onlyAnalog h
    exact ⟨hframe.sameAngles, hframe.sameLink, hframe.comm⟩

/-- Only the reads and the filter calls write the channels, the ranging registers, the converter's
selection and `AFE_PHASE`. -/
theorem exec_sameAnalog_of_ne_rd_flt {i : Instr} {s t : State}
    (hi : ∀ c, i ≠ rdInstr c ∧ i ≠ fltInstr c) (h : exec i s = .next t) : s.SameAnalog t := by
  induction i using cases_by_operation with
  | checksum i hi' => obtain ⟨-, hanalog, -⟩ := checksumCommandsFrame i s t hi' h; exact hanalog
  | frame => obtain ⟨-, hanalog, -⟩ := frameFrame s t h; exact hanalog
  | acq a => obtain ⟨-, hanalog, -⟩ := acquireFrame a s t h; exact hanalog
  | rd c => exact absurd rfl (hi c).1
  | flt c => exact absurd rfl (hi c).2

/-- The result registers, each with its writers (R104, R163, R170). -/
theorem exec_result_writers {i : Instr} {s t : State} (h : exec i s = .next t) :
    (t.rPay ≠ s.rPay ∨ t.fOk ≠ s.fOk → i = .vfy6 ∨ ∃ a, i = acqInstr a) ∧
    (t.rCrc ≠ s.rCrc → i = .crc6 ∨ i = .vfy6 ∨ i = .crc8 ∨ i = .frame ∨ ∃ a, i = acqInstr a) ∧
    (t.rWord ≠ s.rWord → i = .frame) := by
  induction i using cases_by_operation with
  | checksum i hi =>
    obtain ⟨-, -, -, -, -, hword, -, -, -, -, -, hothers⟩ := checksumCommandsFrame i s t hi h
    refine ⟨fun hne => .inl ?_, fun _ => ?_, fun hne => absurd hword hne⟩
    · by_contra hvfy6
      simp [hothers hvfy6] at hne
    · rcases hi with rfl | rfl | rfl <;> simp
  | frame =>
    obtain ⟨-, -, -, -, -, hpay, hok, -⟩ := frameFrame s t h
    simp [hpay, hok]
  | acq a =>
    obtain ⟨-, -, -, hword, -⟩ := acquireFrame a s t h
    simp [hword]
  | rd c =>
    obtain ⟨hpay, hcrc, hok, hword⟩ := (exec_rd_onlyAnalog h).results
    simp [hpay, hcrc, hok, hword]
  | flt c =>
    obtain ⟨hpay, hcrc, hok, hword⟩ := (exec_flt_onlyAnalog h).results
    simp [hpay, hcrc, hok, hword]

/-- Settles O13: of the commands only the acquisitions write CommunicationStatus, and their next
state sets the warning alone, by a timed-out read. -/
theorem commandsOnlySetTheWarning : Obligations.CommandsOnlySetTheWarning := by
  intro i s t h
  by_cases hi : ∃ a, i = acqInstr a
  · obtain ⟨a, rfl⟩ := hi
    rw [exec_acq_eq] at h
    cases h
    refine ⟨rfl, rfl, fun hwarning => by simp [hwarning], fun hchanged => ?_⟩
    cases h0 : s.linkTimesOut 0 with
    | true => exact ⟨a, 0, rfl, by decide, h0⟩
    | false =>
      cases h1 : s.linkTimesOut 1 with
      | true => exact ⟨a, 1, rfl, by decide, h1⟩
      | false =>
        have h2 : s.linkTimesOut 2 = true := by
          by_contra h2
          simp [h0, h1, h2] at hchanged
        exact ⟨a, 2, rfl, by decide, h2⟩
  · obtain ⟨-, -, hcomm⟩ := exec_link_side_of_ne_acq (fun a ha => hi ⟨a, ha⟩) h
    simp [hcomm]

/-- A command other than `ACQ a` leaves the reading and the select line of axis `a`. -/
theorem exec_axis_of_ne {i : Instr} {s t : State} {a : Axis} (hi : i ≠ acqInstr a)
    (h : exec i s = .next t) : t.angle a = s.angle a ∧ t.sel a = s.sel a := by
  by_cases hacq : ∃ b, i = acqInstr b
  · obtain ⟨b, rfl⟩ := hacq
    obtain ⟨hother, -⟩ := acquireFrame b s t h
    exact hother a (by rintro rfl; exact hi rfl)
  · obtain ⟨⟨hangle, -⟩, ⟨hsel, -⟩, -⟩ := exec_link_side_of_ne_acq (not_exists.1 hacq) h
    exact ⟨hangle a, hsel a⟩

/-- A command that is no read and no filter call of channel `c` leaves its raw result. -/
theorem exec_raw_of_ne {i : Instr} {s t : State} {c : Channel}
    (hi : ¬ (i = rdInstr c ∨ i = fltInstr c)) (h : exec i s = .next t) :
    (t.chan c).raw = (s.chan c).raw := by
  by_cases hanalog : ∃ d, i = rdInstr d ∨ i = fltInstr d
  · obtain ⟨d, rfl | rfl⟩ := hanalog
    · rw [(exec_rd_onlyAnalog h).other c (by rintro rfl; exact hi (.inl rfl))]
    · rw [(exec_flt_onlyAnalog h).other c (by rintro rfl; exact hi (.inr rfl))]
  · obtain ⟨hchan, -⟩ :=
      exec_sameAnalog_of_ne_rd_flt (fun d => not_or.1 (not_exists.1 hanalog d)) h
    obtain ⟨hraw, -⟩ := hchan c
    exact hraw

/-- A command other than `FLT c` leaves the smoothed value, the index and the slots of channel
`c`. -/
theorem exec_filter_of_ne {i : Instr} {s t : State} {c : Channel} (hi : i ≠ fltInstr c)
    (h : exec i s = .next t) :
    (t.chan c).smooth = (s.chan c).smooth ∧ (t.chan c).fidx = (s.chan c).fidx ∧
      ∀ j, t.slot c j = s.slot c j := by
  by_cases hanalog : ∃ d, i = rdInstr d ∨ i = fltInstr d
  · obtain ⟨d, rfl | rfl⟩ := hanalog
    · obtain ⟨-, hregisters, hslots, -⟩ := readFrame d s t h
      obtain ⟨hsmooth, hidx⟩ := hregisters c
      exact ⟨hsmooth, hidx, hslots c⟩
    · have hother := (exec_flt_onlyAnalog h).other c (by rintro rfl; exact hi rfl)
      simp [State.slot, hother]
  · obtain ⟨hchan, hslots, -⟩ :=
      exec_sameAnalog_of_ne_rd_flt (fun d => not_or.1 (not_exists.1 hanalog d)) h
    obtain ⟨-, hsmooth, hidx⟩ := hchan c
    exact ⟨hsmooth, hidx, hslots c⟩

/-- A command that is no read and no filter call of the current channel leaves the ranging
registers. -/
theorem exec_ranging_of_ne {i : Instr} {s t : State} (hi : ¬ (i = .rdI ∨ i = .fltI))
    (h : exec i s = .next t) : t.rail = s.rail ∧ t.coeff = s.coeff := by
  by_cases hanalog : ∃ d, i = rdInstr d ∨ i = fltInstr d
  · obtain ⟨d, rfl | rfl⟩ := hanalog
    · cases d with
      | v => exact (exec_rd_onlyAnalog h).ranging rfl
      | i => exact absurd (.inl rfl) hi
    · cases d with
      | v => exact (exec_flt_onlyAnalog h).ranging rfl
      | i => exact absurd (.inr rfl) hi
  · obtain ⟨-, -, hrail, hcoeff, -⟩ :=
      exec_sameAnalog_of_ne_rd_flt (fun d => not_or.1 (not_exists.1 hanalog d)) h
    exact ⟨hrail, hcoeff⟩

/-- Settles O14: each register by the commands that leave it as it was. -/
theorem onlyTheNamedCommandsWrite : Obligations.OnlyTheNamedCommandsWrite := by
  intro i s t h
  obtain ⟨hpay, hcrc, hword⟩ := exec_result_writers h
  obtain ⟨-, hdin, -⟩ := exec_sameHostSide h
  have hlink (hi : ¬ ∃ a, i = acqInstr a) := exec_link_side_of_ne_acq (not_exists.1 hi) h
  have hanalog (hi : ¬ ∃ c, i = rdInstr c ∨ i = fltInstr c) :=
    exec_sameAnalog_of_ne_rd_flt (fun c => not_or.1 (not_exists.1 hi c)) h
  refine ⟨fun a => not_imp_comm.1 fun hi => (exec_axis_of_ne hi h).1,
    fun c => not_imp_comm.1 fun hi => exec_raw_of_ne hi h, fun c hne => ?_, fun hne => ?_,
    fun hne => ?_, fun hne => ?_, hpay, hcrc, hword,
    fun a => not_imp_comm.1 fun hi => (exec_axis_of_ne hi h).2, fun hne => ?_,
    fun hne => ?_, hdin⟩
  all_goals by_contra hi
  · obtain ⟨hsmooth, hidx, hslots⟩ := exec_filter_of_ne hi h
    simp [hsmooth, hidx, hslots] at hne
  · obtain ⟨hrail, hcoeff⟩ := exec_ranging_of_ne hi h
    simp [hrail, hcoeff] at hne
  · obtain ⟨-, -, -, -, hmux, href, -⟩ := hanalog hi
    simp [hmux, href] at hne
  · obtain ⟨⟨-, hsr24⟩, -⟩ := hlink hi
    exact hne hsr24
  · obtain ⟨-, ⟨-, hphase⟩, hcomm⟩ := hlink hi
    simp [hphase, hcomm] at hne
  · obtain ⟨-, -, -, -, -, -, hphase⟩ := hanalog hi
    exact hne hphase

/-! ### The events of a command and the answers they take (R63, R201) -/

/-- Events taken one part after the other. -/
theorem selectLines_append (low : Option Axis) (es fs : List Event) :
    selectLines low (es ++ fs) = (selectLines low es).bind fun l => selectLines l fs := by
  induction es generalizing low with
  | nil => rfl
  | cons e es ih =>
    cases e <;> cases low <;> simp only [List.cons_append, selectLines, ih, Option.bind_none]
    all_goals split <;> rfl

/-- From `s` to `t` the events `es` were recorded: they keep the discipline of the select lines from
both released to both released, and they took the listed answers that are missing; where `t` waits
for a conversion, that conversion took one answer more. -/
structure State.Emits (s t : State) (es : List Event) : Prop where
  trace : t.trace = s.trace ++ es
  lines : selectLines none es = some none
  link : t.linkAnswers = s.linkAnswers.drop (countReads es)
  switches : t.switchAnswers = s.switchAnswers.drop (countSwitches es)
  conv : t.convAnswers = s.convAnswers.drop (countConverts es + t.busy.toNat)

theorem State.completedRead_emits (s : State) (c : Channel) (codes : Nat → Word) :
    ∃ es, s.Emits (s.take.completedRead c codes).complete es := by
  cases c with
  | v => exact ⟨_, rfl, rfl, rfl, rfl, List.drop_one.symm⟩
  | i => exact ⟨_, rfl, rfl, rfl, rfl, rfl⟩

theorem State.hungRead_emits (s : State) (c : Channel) : ∃ es, s.Emits (s.take.hungRead c) es := by
  refine s.take.hungRead_cases (P := fun _ t => ∃ es, s.Emits t es) ?_ ?_ ?_ c
  · exact ⟨_, rfl, rfl, rfl, rfl, List.drop_one.symm⟩
  · exact ⟨_, rfl, rfl, rfl, rfl, List.drop_one.symm⟩
  · exact ⟨_, rfl, rfl, rfl, rfl, rfl⟩

/-- The average of a channel causes no event. -/
theorem State.Emits.average {s t : State} {es : List Event} (h : s.Emits t es) (c : Channel) :
    s.Emits (t.average c) es := by
  obtain ⟨htrace, hlines, hlink, hswitches, hconv⟩ := h
  cases c <;> exact ⟨htrace, hlines, hlink, hswitches, hconv⟩

/-- What every command records, and the answers it takes. -/
theorem exec_emits {i : Instr} {s t : State} (h : exec i s = .next t) : ∃ es, s.Emits t es := by
  have hnone : s.trace = s.trace ++ [] := (List.append_nil _).symm
  induction i using cases_by_operation with
  | checksum i hi =>
    rw [exec_checksum_next hi h]
    exact ⟨[], hnone, rfl, rfl, rfl, rfl⟩
  | frame =>
    rw [exec_frame_eq] at h
    cases h
    exact ⟨s.frameEvents, rfl, rfl, rfl, List.drop_one.symm, rfl⟩
  | acq a =>
    rw [exec_acq_eq] at h
    cases h
    refine ⟨s.linkEvents a, rfl, ?_, rfl, ?_, ?_⟩ <;> cases a <;> rfl
  | rd c =>
    rcases exec_rd_next h with ⟨-, rfl⟩ | ⟨-, rfl⟩
    · exact s.completedRead_emits c _
    · exact s.hungRead_emits c
  | flt c =>
    rcases exec_flt_next h with ⟨-, ⟨-, rfl⟩ | ⟨-, rfl⟩⟩
    · obtain ⟨es, hes⟩ := s.completedRead_emits c s.code
      exact ⟨es, hes.average c⟩
    · exact s.hungRead_emits c

/-- Settles O15: the events of a command start and end with both lines released. -/
theorem selectLinesNeverOverlap : Obligations.SelectLinesNeverOverlap := by
  intro i s t h hbefore
  obtain ⟨es, hes⟩ := exec_emits h
  rw [hes.trace, selectLines_append, hbefore, Option.bind_some, hes.lines]

/-! ### Where a command can hang (R143, R221) -/

theorem exec_isNext {s : State} (hidx : ∀ c, (s.chan c).fidx < s.cfg.filterN) (i : Instr) :
    ∃ t, exec i s = .next t := by
  induction i using cases_by_operation with
  | checksum i hi => rcases hi with rfl | rfl | rfl <;> exact ⟨_, rfl⟩
  | frame => exact ⟨_, exec_frame_eq s⟩
  | acq a => exact ⟨_, exec_acq a s⟩
  | rd c => exact ⟨_, exec_rd c s⟩
  | flt c => exact (filterStopsOnlyOutsideTheBuffer c s).2 (hidx c)

/-- A command that makes no conversion completes. -/
theorem exec_busy_of_ne_rd_flt {i : Instr} {s t : State}
    (hi : ¬ ∃ c, i = rdInstr c ∨ i = fltInstr c) (h : exec i s = .next t) : t.busy = false := by
  induction i using cases_by_operation with
  | checksum i hi' => rw [exec_checksum_next hi' h]
  | frame => rw [exec_frame_eq] at h; cases h; rfl
  | acq a => rw [exec_acq] at h; cases h; rfl
  | rd c => exact absurd ⟨c, .inl rfl⟩ hi
  | flt c => exact absurd ⟨c, .inr rfl⟩ hi

/-- A read or a filter call of channel `c` hangs exactly where a conversion is not answered. -/
theorem exec_busy_of_rd_flt {i : Instr} {c : Channel} {s t : State}
    (hi : i = rdInstr c ∨ i = fltInstr c) (h : exec i s = .next t) :
    t.busy = true ↔ ¬ s.conversionsAnswered c := by
  have hend : (s.conversionsAnswered c ∧ t.busy = false) ∨
      (¬ s.conversionsAnswered c ∧ t.busy = true) := by
    rcases hi with rfl | rfl
    · rcases exec_rd_next h with ⟨hans, rfl⟩ | ⟨hans, rfl⟩
      · exact .inl ⟨hans, rfl⟩
      · exact .inr ⟨hans, s.take.hungRead_busy c⟩
    · rcases exec_flt_next h with ⟨-, ⟨hans, rfl⟩ | ⟨hans, rfl⟩⟩
      · exact .inl ⟨hans, State.average_busy _ c⟩
      · exact .inr ⟨hans, s.take.hungRead_busy c⟩
  rcases hend with ⟨hans, hbusy⟩ | ⟨hans, hbusy⟩ <;> simp [hans, hbusy]

/-- An instruction reads one channel at most. -/
theorem channel_unique {i : Instr} {c d : Channel} (hc : i = rdInstr c ∨ i = fltInstr c)
    (hd : i = rdInstr d ∨ i = fltInstr d) : c = d := by
  rcases hc with rfl | rfl <;> cases c <;> cases d <;> simp [rdInstr, fltInstr] at hd ⊢

/-- A command hangs exactly where it reads a channel with a conversion that is not answered. -/
theorem exec_busy_iff {i : Instr} {s t : State} (h : exec i s = .next t) :
    t.busy = true ↔ ∃ c, (i = rdInstr c ∨ i = fltInstr c) ∧ ¬ s.conversionsAnswered c := by
  by_cases hanalog : ∃ d, i = rdInstr d ∨ i = fltInstr d
  · obtain ⟨d, hd⟩ := hanalog
    rw [exec_busy_of_rd_flt hd h]
    refine ⟨fun hans => ⟨d, hd, hans⟩, ?_⟩
    rintro ⟨c, hc, hans⟩
    rwa [channel_unique hd hc]
  · rw [exec_busy_of_ne_rd_flt hanalog h]
    exact iff_of_false Bool.false_ne_true fun ⟨c, hc, _⟩ => hanalog ⟨c, hc⟩

/-- Settles O16: every index is in its buffer, so every command answers a next state. -/
theorem onlyConversionsCanHang : Obligations.OnlyConversionsCanHang := by
  intro i s hinv
  obtain ⟨t, h⟩ := exec_isNext hinv.fidxOk i
  exact ⟨t, h, exec_busy_iff h⟩

end Sys2Proof.Machine
end

section
/-! Proofs about steps and resets: the reset values (R200), what a step does with each host action
(R190, R193, R201, R202), and that every step keeps the invariant of an operation boundary. -/

namespace Sys2Proof.Machine

/-! ### The reset state (R200) -/

/-- Settles O7, register by register. -/
theorem resetValues : Obligations.ResetValues := by
  refine ⟨rfl, fun cfg n => ⟨State.resetOf_slot cfg n, rfl, rfl, rfl, fun c => ?_, fun a => ?_, rfl,
    rfl, rfl, rfl, rfl, rfl, rfl, rfl, fun a => ?_, rfl, rfl, rfl⟩⟩
  · cases c <;> exact ⟨rfl, rfl, rfl⟩
  · cases a <;> exact ⟨rfl, rfl, rfl, rfl, rfl⟩
  · cases a <;> rfl

/-- The reset state of a well-formed configuration meets the invariant. -/
theorem resetOf_inv {cfg : Config} (hcfg : cfg.wellFormed = true) (n : Nat) :
    (State.resetOf cfg n).Inv := by
  obtain ⟨-, hfilter, -⟩ := cfg.wellFormed_iff.1 hcfg
  exact {
    cfgOk := hcfg
    fidxOk := fun c => by cases c <;> exact hfilter
    bufferOk := fun c => by cases c <;> exact Memory.wf_nil _
    meanOk := fun c => by
      have hmean : (0 : Word).toNat = Memory.sum [] cfg.filterN / cfg.filterN := by
        simp [Memory.sum_nil]
      cases c <;> exact hmean
    selOk := fun a => by cases a <;> rfl
    lnkOk := rfl
    busyOk := iff_of_false Bool.false_ne_true fun h => h rfl
    errcntOk := Nat.two_pow_pos _
    angleOk := fun a => by cases a <;> exact Nat.zero_le _
    wordOk := (by decide : (0#64).extractLsb' 60 4 = 0 ∧ (0#64).extractLsb' 2 2 = 0)
    rawIOk := Nat.zero_le _ }

/-- The configuration of the machine at reset is well formed, whatever its open parameters are. -/
theorem machine_wellFormed : Config.machine.wellFormed = true :=
  Config.machine.wellFormed_iff.2 ⟨by decide, Nat.succ_pos _, by decide, rfl⟩

/-- Settles O8: the machine's own configuration is well formed, and any such will do. -/
theorem resetMeetsTheBoundaryConditions : Obligations.ResetMeetsTheBoundaryConditions :=
  ⟨resetOf_inv machine_wellFormed 0, fun _ n hcfg => resetOf_inv hcfg n⟩

/-- Settles O9: every field of the packed word is 0 at reset. -/
theorem firstFrameAfterReset : Obligations.FirstFrameAfterReset := by
  intro cfg n hcase
  have hpack : pack 0 0 0 0 0 = 0 := by decide
  have hcrc : crc8 0 = 0xFF := by decide
  have hrender : render .lower 0 0xFF =
      [0x3C] ++ List.replicate 15 0x30 ++ [0x66, 0x66, 0x3E, 0x0D, 0x0A] := by decide
  have hword : State.frameWord { State.resetOf cfg n with switchAnswers := [0] } = 0 := hpack
  refine ⟨_, exec_frame_eq _, hword, (congrArg crc8 hword).trans hcrc, ?_⟩
  rw [State.frameEvents, hword, hcrc, ← hrender, ← hcase]
  rfl

/-- A reset takes the registers to their reset values (R200, R201). -/
theorem State.applyReset_registers (s : State) :
    s.applyReset.registers = (State.resetOf s.cfg s.draws).registers := rfl

/-- Whatever a reset finds, the invariant holds after it. -/
theorem State.applyReset_inv {s : State} (hcfg : s.cfg.wellFormed = true) : s.applyReset.Inv :=
  { resetOf_inv hcfg s.draws with }

/-- What the host will do is no part of the invariant. -/
theorem State.Inv.hostQueue {s : State} (h : s.Inv) (rest : List HostAction) :
    State.Inv { s with hostQueue := rest } := { h with }

/-! ### Steps by the host's next action (R190, R193, R202) -/

/-- A reset is taken by an idle core and by a hung one (R201). -/
theorem step_of_reset {s : State} {rest : List HostAction} (hcfg : s.cfg.wellFormed = true)
    (hq : s.hostQueue = .reset :: rest) :
    step s = .next (State.applyReset { s with hostQueue := rest }) := by
  cases hb : s.busy with
  | false => rw [step_of_action hcfg hb hq]; rfl
  | true => simp [step, State.hostStep, hcfg, hb, hq]

/-- Settles O5: nothing presented, nothing taken, or a reset taken. -/
theorem waitingAndHungCoresStay : Obligations.WaitingAndHungCoresStay := by
  refine ⟨fun s hcfg hq => ?_, fun s a rest hcfg hb hq ha => ?_, fun s rest hcfg hq => ?_⟩
  · simp [step, State.hostStep, hcfg, hq]
  · exact step_of_hung hcfg hb (by simpa [hq] using ha)
  · exact ⟨_, step_of_reset hcfg hq, rfl, rfl, rfl, rfl, rfl, rfl, rfl, rfl⟩

/-- Settles O4: the idle core takes the byte, which decodes to the command. -/
theorem stepRunsTheDecodedCommand : Obligations.StepRunsTheDecodedCommand := by
  have hrun {s : State} {b : Byte} {i : Instr} {rest : List HostAction}
      (hcfg : s.cfg.wellFormed = true) (hb : s.busy = false) (hq : s.hostQueue = .command b :: rest)
      (hdecode : decode b = .ok i) : step s = exec i { s with hostQueue := rest } :=
    (step_of_action hcfg hb hq).trans (hostAct_command hdecode)
  refine ⟨fun s b i rest => hrun, fun s i hcfg => ?_⟩
  have hdecode : decode (BitVec.ofNat 8 (encode i).toNat) = .ok i := by simp
  exact hrun (s := s.withFetchWord 8 (encode i).toNat) hcfg rfl rfl hdecode

/-- Settles O6: the idle core takes the write. -/
theorem hostWritesChangeOneRegister : Obligations.HostWritesChangeOneRegister :=
  fun _ _ hcfg hb => ⟨fun _ hq => step_of_action hcfg hb hq, fun _ hq => step_of_action hcfg hb hq,
    fun _ hq => step_of_action hcfg hb hq, fun hq => step_of_action hcfg hb hq⟩

/-- What a step that answers a next state did: nothing, a command, a command cut off by a reset, a
write of the host, or a reset. -/
inductive State.StepsTo (s : State) : State → Prop
  | stay : s.StepsTo s
  | command (rest : List HostAction) (i : Instr) (t : State) (idle : s.busy = false)
      (h : exec i { s with hostQueue := rest } = .next t) : s.StepsTo t
  | commandThenReset (rest : List HostAction) (i : Instr) (t : State) (k : Nat)
      (h : exec i { s with hostQueue := rest } = .next t) :
      s.StepsTo (State.abandon { s with hostQueue := rest } t k)
  | write (rest : List HostAction) (v : BitVec 64) (c : CommStatus)
      (h : c.errcnt = s.comm.errcnt ∨ c.errcnt < 2 ^ s.cfg.errcntBits) :
      s.StepsTo { s with hostQueue := rest, din := v, comm := c }
  | reset (rest : List HostAction) : s.StepsTo (State.applyReset { s with hostQueue := rest })

/-- A presented byte that answers a next state decodes to a command that does. -/
theorem State.runCommand_next {s t : State} {b : Byte} (h : s.runCommand b = .next t) :
    ∃ i, exec i s = .next t := by
  unfold State.runCommand at h
  split at h
  · exact ⟨_, h⟩
  · cases h

theorem State.runCommandThenReset_next {s u : State} {b : Byte} {k : Nat}
    (h : s.runCommandThenReset b k = .next u) :
    ∃ i t, exec i s = .next t ∧ u = s.abandon t k := by
  unfold State.runCommandThenReset at h
  split at h
  · next t hrun =>
    obtain ⟨i, hi⟩ := State.runCommand_next hrun
    cases h
    exact ⟨i, t, hi, rfl⟩
  · cases h
  · cases h

/-- What an idle core does with an action. -/
theorem State.hostAct_next {s t : State} {a : HostAction} {rest : List HostAction}
    (idle : s.busy = false) (h : State.hostAct { s with hostQueue := rest } a = .next t) :
    s.StepsTo t := by
  cases a with
  | command b =>
    obtain ⟨i, hi⟩ := State.runCommand_next h
    exact .command rest i t idle hi
  | commandThenReset b k =>
    obtain ⟨i, u, hi, rfl⟩ := State.runCommandThenReset_next h
    exact .commandThenReset rest i u k hi
  | writeDin v => cases h; exact .write rest v s.comm (.inl rfl)
  | writeError v => cases h; exact .write rest s.din _ (.inl rfl)
  | writeErrcnt v =>
    cases h
    exact .write rest s.din _ (.inr (Nat.mod_lt _ (Nat.two_pow_pos _)))
  | clearWarning => cases h; exact .write rest s.din _ (.inl rfl)
  | reset => cases h; exact .reset rest

/-- A step that answers a next state is one of those that `StepsTo` lists, on a well-formed
configuration. -/
theorem step_next {s t : State} (h : step s = .next t) :
    s.cfg.wellFormed = true ∧ s.StepsTo t := by
  unfold step State.hostStep at h
  split at h
  · next hcfg =>
    refine ⟨hcfg, ?_⟩
    split at h
    · cases h; exact .stay
    · split at h
      · split at h
        · cases h; exact .reset _
        · cases h; exact .stay
      · next hidle => exact State.hostAct_next (Bool.eq_false_iff.2 hidle) h
  · cases h

/-! ### A command cut off by a reset (R201) -/

/-- The state in which a reset after `k` events finds the outside: as the command left it, or with
the answers taken that the events took. -/
def State.cutOff (s t : State) (k : Nat) : State :=
  if (t.trace.drop s.trace.length).length ≤ k then t
  else { s.takeAnswers ((t.trace.drop s.trace.length).take k) with
    trace := s.trace ++ (t.trace.drop s.trace.length).take k }

theorem State.abandon_eq (s t : State) (k : Nat) : s.abandon t k = (s.cutOff t k).applyReset := by
  unfold State.abandon State.cutOff
  simp only
  split <;> rfl

theorem State.cutOff_of_le {s t : State} {es : List Event} (ht : t.trace = s.trace ++ es) {k : Nat}
    (hk : es.length ≤ k) : s.cutOff t k = t := by
  simp [State.cutOff, ht, hk]

theorem State.cutOff_of_lt {s t : State} {es : List Event} (ht : t.trace = s.trace ++ es) {k : Nat}
    (hk : k < es.length) :
    s.cutOff t k = { s.takeAnswers (es.take k) with trace := s.trace ++ es.take k } := by
  simp [State.cutOff, ht, Nat.not_le.2 hk]

/-- What a reset after `k` of the events `es` of a command finds: the first `k` events recorded, the
configuration and the host's actions as they were, and the answers those events took missing; after
all the events of a command that hangs, one conversion's answer more. -/
structure State.CutAfter (s t : State) (es : List Event) (k : Nat) (u : State) : Prop where
  trace : u.trace = s.trace ++ es.take k
  cfg : u.cfg = s.cfg
  queue : u.hostQueue = s.hostQueue
  link : u.linkAnswers = s.linkAnswers.drop (countReads (es.take k))
  switches : u.switchAnswers = s.switchAnswers.drop (countSwitches (es.take k))
  conv : k < es.length ∨ t.busy = false →
    u.convAnswers = s.convAnswers.drop (countConverts (es.take k))
  convHung : es.length ≤ k → t.busy = true →
    u.convAnswers = s.convAnswers.drop (countConverts es + 1)

theorem State.cutOff_cutAfter {s t : State} {i : Instr} {es : List Event}
    (h : exec i s = .next t) (hes : s.Emits t es) (k : Nat) :
    s.CutAfter t es k (s.cutOff t k) := by
  obtain ⟨hcfg, -, hqueue⟩ := exec_sameHostSide h
  obtain ⟨htrace, -, hlink, hswitches, hconv⟩ := hes
  rcases Nat.lt_or_ge k es.length with hlt | hle
  · rw [State.cutOff_of_lt htrace hlt, State.takeAnswers_eq]
    exact ⟨rfl, rfl, rfl, rfl, rfl, fun _ => rfl, fun hge => absurd hlt (Nat.not_lt.2 hge)⟩
  · rw [State.cutOff_of_le htrace hle]
    refine ⟨?_, hcfg, hqueue, ?_, ?_, fun hdone => ?_, fun _ hbusy => ?_⟩
    · rw [htrace, List.take_of_length_le hle]
    · rw [hlink, List.take_of_length_le hle]
    · rw [hswitches, List.take_of_length_le hle]
    · have hbusy : t.busy = false := hdone.resolve_left (Nat.not_lt.2 hle)
      rw [hconv, hbusy, List.take_of_length_le hle]
      rfl
    · rw [hconv, hbusy]
      rfl

/-- Settles O18: the step runs the command and resets what `CutAfter` describes. -/
theorem resetDuringACommandAbandonsIt : Obligations.ResetDuringACommandAbandonsIt := by
  intro s b i k rest hinv hidle hqueue hdecode
  obtain ⟨t, h⟩ := exec_isNext (hinv.hostQueue rest).fidxOk i
  obtain ⟨es, hes⟩ := exec_emits h
  obtain ⟨htrace, hcfg, hrest, hlink, hswitches, hconv, hconvHung⟩ := State.cutOff_cutAfter h hes k
  have hstep :
      step s = .next (State.applyReset (State.cutOff { s with hostQueue := rest } t k)) := by
    rw [step_of_action hinv.cfgOk hidle hqueue, ← State.abandon_eq]
    simp [State.hostAct, State.runCommandThenReset, State.runCommand, hdecode, h]
  refine ⟨t, _, es, State.draws (State.cutOff { s with hostQueue := rest } t k), h, hes.trace,
    hstep, htrace, ?_, hrest, hlink, hswitches, hconv, hconvHung⟩
  rw [State.applyReset_registers, hcfg]

/-! ### The record and the configuration over a step -/

/-- Settles O12: commands by the events they record; a step by what `StepsTo` says it did. -/
theorem commandsKeepOperandsAndEvents : Obligations.CommandsKeepOperandsAndEvents := by
  refine ⟨fun i s t h => ⟨exec_sameHostSide h, (exec_emits h).imp fun _ hes => hes.trace⟩,
    fun s t h => ?_⟩
  have hsame : s.trace = s.trace ++ [] := (List.append_nil _).symm
  obtain ⟨-, hsteps⟩ := step_next h
  cases hsteps with
  | stay => exact ⟨rfl, [], hsame⟩
  | command rest i t idle hexec =>
    obtain ⟨hcfg, -⟩ := exec_sameHostSide hexec
    exact ⟨hcfg, (exec_emits hexec).imp fun _ hes => hes.trace⟩
  | commandThenReset rest i t k hexec =>
    obtain ⟨es, hes⟩ := exec_emits hexec
    obtain ⟨htrace, hcfg, -⟩ := State.cutOff_cutAfter hexec hes k
    rw [State.abandon_eq]
    exact ⟨hcfg, _, htrace⟩
  | write rest v c _ => exact ⟨rfl, [], hsame⟩
  | reset rest => exact ⟨rfl, [], hsame⟩

/-! ### The invariant of every operation boundary -/

/-- The invariant's conditions on one channel (R25, R51). -/
structure AnalogChannel.Boundary (n : Nat) (g : AnalogChannel) : Prop where
  fidx : g.fidx < n
  buffer : Memory.wf n g.fbuf = true
  mean : g.smooth.toNat = g.fbuf.sum n / n

theorem State.Inv.boundary {s : State} (h : s.Inv) (c : Channel) :
    (s.chan c).Boundary s.cfg.filterN :=
  ⟨h.fidxOk c, h.bufferOk c, h.meanOk c⟩

/-- The average of a channel keeps its conditions (R150). -/
theorem AnalogChannel.Boundary.average {n : Nat} {g : AnalogChannel} (h : g.Boundary n) :
    (g.average n).Boundary n := by
  obtain ⟨-, -, -, hmean, hbuffer, hidx⟩ := AnalogChannel.average_spec h.buffer h.fidx
  exact ⟨hidx, hbuffer, hmean⟩

/-- An idle core that meets the invariant waits for no conversion (R30). -/
theorem State.Inv.phase_idle {s : State} (h : s.Inv) (hidle : s.busy = false) :
    s.afePhase = .idle := by
  by_contra hphase
  simpa [hidle] using h.busyOk.2 hphase

/-- An analog operation keeps the invariant if it keeps the conditions on its channel, on the
current reading and on `BUSY`. -/
theorem State.Inv.of_onlyAnalog {s t : State} {c : Channel} (h : s.Inv) (ht : s.OnlyAnalog c t)
    (hchan : (t.chan c).Boundary s.cfg.filterN)
    (hraw : t.chanI.raw.toNat ≤ 65535 - s.cfg.iOffset.toNat)
    (hbusy : t.busy = true ↔ t.afePhase ≠ .idle) : t.Inv := by
  obtain ⟨hcfg, -⟩ := ht.sameHostSide
  obtain ⟨hangles, -⟩ := ht.sameAngles
  obtain ⟨hsel, hphase⟩ := ht.sameLink
  obtain ⟨-, -, -, hword⟩ := ht.results
  have hboth (d : Channel) : (t.chan d).Boundary s.cfg.filterN := by
    by_cases hd : d = c
    · exact hd ▸ hchan
    · exact ht.other d hd ▸ h.boundary d
  rw [← hcfg] at hboth hraw
  exact {
    cfgOk := hcfg ▸ h.cfgOk
    fidxOk := fun d => (hboth d).fidx
    bufferOk := fun d => (hboth d).buffer
    meanOk := fun d => (hboth d).mean
    selOk := fun a => (hsel a).trans (h.selOk a)
    lnkOk := hphase.trans h.lnkOk
    busyOk := hbusy
    errcntOk := by rw [ht.comm, hcfg]; exact h.errcntOk
    angleOk := fun a => by rw [hangles a]; exact h.angleOk a
    wordOk := hword ▸ h.wordOk
    rawIOk := hraw }

/-- Averaging a channel keeps the invariant (R150). -/
theorem State.Inv.average {s : State} (h : s.Inv) (c : Channel) : (s.average c).Inv := by
  have hself : s.OnlyAnalog c s := ⟨rfl, fun _ _ => rfl, fun _ => ⟨rfl, rfl⟩⟩
  refine h.of_onlyAnalog hself.average ?_ ?_ ?_
  · rw [State.average_chan]
    exact (h.boundary c).average
  · cases c <;> exact h.rawIOk
  · cases c <;> exact h.busyOk

/-- The current reading stays in its range over a completed read of either channel (R145). -/
theorem State.completedRead_rawI_le {s : State} (c : Channel) (codes : Nat → Word)
    (h : s.chanI.raw.toNat ≤ 65535 - s.cfg.iOffset.toNat) :
    (s.completedRead c codes).chanI.raw.toNat ≤ 65535 - s.cfg.iOffset.toNat := by
  cases c with
  | v => exact h
  | i =>
    have hscaled := (scaleI s.cfg (codes 1) (coeffOf s.cfg (railEst s.cfg (codes 0)))).isLt
    rw [State.completedRead, removeOffset_toNat]
    omega

/-- A completed read of a channel keeps the invariant. -/
theorem State.Inv.completedRead {s : State} (h : s.Inv) (c : Channel) (codes : Nat → Word) :
    (s.take.completedRead c codes).complete.Inv := by
  refine h.of_onlyAnalog (s.onlyAnalog_completedRead c codes) ?_
    (s.take.completedRead_rawI_le c codes h.rawIOk) ?_
  · rw [State.complete_chan, State.completedRead_chan, State.take_chan]
    exact ⟨h.fidxOk c, h.bufferOk c, h.meanOk c⟩
  · cases c <;> exact iff_of_false Bool.false_ne_true fun hphase => hphase rfl

/-- A read that hangs keeps the invariant: `AFE_PHASE` names the conversion (R30, R143). -/
theorem State.Inv.hungRead {s : State} (h : s.Inv) (c : Channel) : (s.take.hungRead c).Inv := by
  refine h.of_onlyAnalog (s.onlyAnalog_hungRead c) ?_ ?_ ?_
  · rw [State.hungRead_chan, State.take_chan]
    exact h.boundary c
  · exact (congrArg (fun g => g.raw.toNat) (s.take.hungRead_chan c .i)).trans_le h.rawIOk
  · exact s.take.hungRead_cases (P := fun _ t => t.busy = true ↔ t.afePhase ≠ .idle)
      (iff_of_true rfl nofun) (iff_of_true rfl nofun) (iff_of_true rfl nofun) c

/-- Every command on an idle core keeps the invariant. -/
theorem exec_inv {i : Instr} {s t : State} (hinv : s.Inv) (hidle : s.busy = false)
    (h : exec i s = .next t) : t.Inv := by
  have hbusy : false = true ↔ s.afePhase ≠ .idle := by simp [hinv.phase_idle hidle]
  induction i using cases_by_operation with
  | checksum i hi =>
    rw [exec_checksum_next hi h]
    exact { hinv with busyOk := hbusy }
  | frame =>
    rw [exec_frame_eq] at h
    cases h
    obtain ⟨-, hhigh, -, -, -, -, hlow, -⟩ := packedWordLayout s.angleEl.angle s.angleAz.angle
      s.chanV.smooth s.chanI.smooth s.switchAnswer
    exact { hinv with busyOk := hbusy, wordOk := ⟨hhigh, hlow⟩ }
  | acq a =>
    rw [exec_acq_eq] at h
    cases h
    have hsel (b : Axis) : (s.sel b || decide (a = b)) = true := by simp [hinv.selOk b]
    have hangle (b : Axis) :
        ((s.setAngle a (readingOf s.linkVerified)).angle b).angle.toNat ≤ 35998 := by
      by_cases hb : b = a
      · rw [hb, State.setAngle_angle_same]
        exact angleScale_le _
      · rw [State.setAngle_angle_other _ _ hb]
        exact hinv.angleOk b
    cases a <;> exact { hinv with
      busyOk := hbusy
      lnkOk := rfl
      angleOk := hangle
      selOk := fun | .el => hsel .el | .az => hsel .az }
  | rd c =>
    rcases exec_rd_next h with ⟨-, rfl⟩ | ⟨-, rfl⟩
    · exact hinv.completedRead c _
    · exact hinv.hungRead c
  | flt c =>
    rcases exec_flt_next h with ⟨-, ⟨-, rfl⟩ | ⟨-, rfl⟩⟩
    · exact (hinv.completedRead c _).average c
    · exact hinv.hungRead c

/-- Settles O10: a command keeps the invariant, a reset establishes it, and a write of the host
touches `COMM.errcnt` within its width. -/
theorem stepKeepsTheBoundaryConditions : Obligations.StepKeepsTheBoundaryConditions := by
  intro s t hinv h
  obtain ⟨-, hsteps⟩ := step_next h
  cases hsteps with
  | stay => exact hinv
  | command rest i t idle hexec => exact exec_inv (hinv.hostQueue rest) idle hexec
  | commandThenReset rest i t k hexec =>
    obtain ⟨es, hes⟩ := exec_emits hexec
    obtain ⟨-, hcfg, -⟩ := State.cutOff_cutAfter hexec hes k
    rw [State.abandon_eq]
    exact State.applyReset_inv (by rw [hcfg]; exact hinv.cfgOk)
  | write rest v c herrcnt =>
    refine { hinv with errcntOk := ?_ }
    rcases herrcnt with heq | hlt
    · exact heq ▸ hinv.errcntOk
    · exact hlt
  | reset rest => exact State.applyReset_inv hinv.cfgOk

end Sys2Proof.Machine
end

section
/-! Proofs about the readings, beyond the family 42_adc_autorange_fsm.md: the width of a code and
the clamp of the offset (R79, R134, R139), monotonicity (R145 (b)), and what a reading, a frame and
a pair of commands depend on (R145 (c), R196, R216). -/

namespace Sys2Proof.Machine

/-! ### Codes and readings -/

/-- Every code an answer brings has `ADC_BITS` bits (R79). -/
theorem State.convAnswer_lt {s : State} {k : Nat} {code : Word} (h : s.convAnswer k = some code) :
    code.toNat < 2 ^ s.cfg.adcBits := by
  unfold State.convAnswer at h
  cases hanswer : s.convAnswers.getD k (Config.freeConvAnswer (s.draws + k)) with
  | sample wide =>
    rw [hanswer] at h
    cases h
    exact truncCode_toNat_lt _ _
  | never =>
    rw [hanswer] at h
    cases h

theorem truncCode_toNat (c : Config) (code : Word) :
    (truncCode c code).toNat = code.toNat % 2 ^ c.adcBits :=
  Word.toNat_ofNat_of_lt ((Nat.mod_le _ _).trans_lt code.isLt)

/-- A word of `ADC_BITS` bits is its own code. -/
theorem truncCode_toNat_of_le {c : Config} {code : Word} (h : code.toNat ≤ c.maxCode) :
    (truncCode c code).toNat = code.toNat := by
  rw [truncCode_toNat, Nat.mod_eq_of_lt (Nat.lt_of_le_pred (Nat.two_pow_pos _) h)]

theorem truncCode_le_maxCode (c : Config) (code : Word) : (truncCode c code).toNat ≤ c.maxCode :=
  Nat.le_sub_one_of_lt (truncCode_toNat_lt c code)

/-- Settles O43: the completed read, its difference truncated, its scaled value exact. -/
theorem offsetClampsAtZero : Obligations.OffsetClampsAtZero := by
  refine ⟨fun s k code h => State.convAnswer_lt h, fun s codeS codeI hS hI => ?_⟩
  have hanswered : s.conversionsAnswered .i := by simp [State.conversionsAnswered_i, hS, hI]
  have hraw : (s.take.completedRead .i s.code).complete.chanI.raw.toNat =
      (scaleI s.cfg codeI (coeffOf s.cfg (railEst s.cfg codeS))).toNat - s.cfg.iOffset.toNat := by
    rw [← removeOffset_toNat, ← State.code_eq_of_convAnswer hS, ← State.code_eq_of_convAnswer hI]
    rfl
  refine ⟨_, exec_rd_of_answered hanswered, hraw, fun k hs hc => ?_⟩
  have hleS : codeS.toNat ≤ s.cfg.maxCode := Nat.le_sub_one_of_lt (State.convAnswer_lt hS)
  have hleI : codeI.toNat ≤ s.cfg.maxCode := Nat.le_sub_one_of_lt (State.convAnswer_lt hI)
  have hcoeff : (s.take.completedRead .i s.code).complete.coeff =
      coeffOf s.cfg (railEst s.cfg codeS) := by
    rw [← State.code_eq_of_convAnswer hS]
    rfl
  rw [hraw, hcoeff, scaleI_coeffOf_toNat_of_linear hs hc hleS hleI,
    coeffOf_railEst_toNat_of_linear hs hc hleS]

/-- Settles O44: exact linear forms do not decrease, nor does a clamped difference. -/
theorem readingsDoNotDecrease : Obligations.ReadingsDoNotDecrease := by
  intro c k x y z hc hs hxy hy
  have hcodes : (truncCode c x).toNat ≤ (truncCode c y).toNat := by
    rwa [truncCode_toNat_of_le (hxy.trans hy), truncCode_toNat_of_le hy]
  refine ⟨?_, ?_⟩
  · simp only [readResult]
    rw [scaleV_toNat_of_linear hs hc (truncCode_le_maxCode c x),
      scaleV_toNat_of_linear hs hc (truncCode_le_maxCode c y)]
    exact linearForm_mono hcodes _ _
  · change (removeOffset _ _).toNat ≤ (removeOffset _ _).toNat
    rw [removeOffset_toNat, removeOffset_toNat]
    dsimp only
    rw [scaleI_coeffOf_toNat_of_linear hs hc (truncCode_le_maxCode c z) (truncCode_le_maxCode c x),
      scaleI_coeffOf_toNat_of_linear hs hc (truncCode_le_maxCode c z) (truncCode_le_maxCode c y)]
    exact Nat.sub_le_sub_right (linearForm_mono hcodes _ _) _

/-! ### What a reading, a frame and a pair of commands depend on -/

/-- Settles O45: a completed read is a function of the configuration and the codes. -/
theorem readDependsOnAnswersAlone : Obligations.ReadDependsOnAnswersAlone := by
  intro c s u hcfg hs hsame
  have hu : u.conversionsAnswered c := fun k hk => hsame k hk ▸ hs k hk
  have hcodes : s.take.completedRead c s.code = s.take.completedRead c u.code :=
    s.take.completedRead_congr fun k hk => State.code_congr (hsame k hk)
  refine ⟨_, _, exec_rd_of_answered hs, exec_rd_of_answered hu, ?_⟩
  rw [hcodes]
  cases c <;>
  simp [State.completedRead, State.voltageWait, State.currentWait, State.chan, State.complete, hcfg]

/-- Settles O59: both frames pack the same word. -/
theorem frameReadsNoFlag : Obligations.FrameReadsNoFlag := by
  intro s u hcase hangle hsmooth hswitch
  have hword : s.frameWord = u.frameWord := by
    simp only [State.frameWord, hswitch]
    rw [show s.angleEl.angle = u.angleEl.angle from hangle .el,
      show s.angleAz.angle = u.angleAz.angle from hangle .az,
      show s.chanV.smooth = u.chanV.smooth from hsmooth .v,
      show s.chanI.smooth = u.chanI.smooth from hsmooth .i]
  have hevents : s.frameEvents = u.frameEvents := by
    simp only [State.frameEvents, hswitch, hword, hcase]
  exact ⟨_, _, u.frameEvents, exec_frame_eq s, exec_frame_eq u, hword, congrArg crc8 hword,
    congrArg (s.trace ++ ·) hevents, rfl⟩

/-- An answer that is listed does not depend on how many were taken before. -/
theorem State.linkAnswer_of_listed {s t : State} (hlink : t.linkAnswers = s.linkAnswers) {k : Nat}
    (hk : k < s.linkAnswers.length) : t.linkAnswer k = s.linkAnswer k := by
  rw [State.linkAnswer, State.linkAnswer, hlink, List.getD_eq_getElem _ _ hk,
    List.getD_eq_getElem _ _ hk]

theorem State.convAnswer_of_listed {s t : State} (hcfg : t.cfg = s.cfg)
    (hconv : t.convAnswers = s.convAnswers) {k : Nat} (hk : k < s.convAnswers.length) :
    t.convAnswer k = s.convAnswer k := by
  rw [State.convAnswer, State.convAnswer, hcfg, hconv, List.getD_eq_getElem _ _ hk,
    List.getD_eq_getElem _ _ hk]

/-- The state after `ACQ a` on `s` when the link answers as it does in `o`. -/
def State.acquiredWith (s : State) (a : Axis) (o : State) : State :=
  { s.setAngle a (readingOf o.linkVerified) with
    sr24 := frameOfBytes (o.linkByte 0) (o.linkByte 1) (o.linkByte 2)
    rPay := o.linkVerified.payload
    rCrc := o.linkVerified.crc.zeroExtend 8
    fOk := o.linkVerified.ok
    comm := { s.comm with
      warning := s.comm.warning || o.linkTimesOut 0 || o.linkTimesOut 1 || o.linkTimesOut 2 }
    selEl := s.selEl || decide (a = .el)
    selAz := s.selAz || decide (a = .az)
    lnkPhase := .idle
    busy := false
    linkAnswers := s.linkAnswers.drop 3
    draws := s.draws + 3
    trace := s.trace ++ o.linkEvents a
    raised := s.raised ++ o.linkAdvisories a o.linkVerified.ok }

theorem exec_acq_acquiredWith (a : Axis) (s : State) :
    exec (acqInstr a) s = .next (s.acquiredWith a s) := exec_acq_eq a s

/-- Only the configuration and the next three answers of the link matter. -/
theorem State.acquiredWith_congr (s : State) (a : Axis) {o p : State} (hcfg : o.cfg = p.cfg)
    (hlink : ∀ k < 3, o.linkAnswer k = p.linkAnswer k) :
    s.acquiredWith a o = s.acquiredWith a p := by
  have hbyte (k : Nat) (hk : k < 3) : o.linkByte k = p.linkByte k :=
    congrArg LinkAnswer.value (hlink k hk)
  have hlate (k : Nat) (hk : k < 3) : o.linkTimesOut k = p.linkTimesOut k :=
    congrArg LinkAnswer.timedOut (hlink k hk)
  have hverified : o.linkVerified = p.linkVerified := by
    simp only [State.linkVerified, hcfg, hbyte 0, hbyte 1, hbyte 2, Nat.reduceLT]
  simp only [State.acquiredWith, State.linkEvents, State.linkAdvisories, hcfg, hverified,
    hbyte 0, hbyte 1, hbyte 2, hlate 0, hlate 1, hlate 2, Nat.reduceLT]

/-- With the same answers from outside, an acquisition and a filter call commute but for the record
of events: they write no register in common and read none that the other writes. -/
theorem State.acquire_filter_comm (s o : State) (a : Axis) (c : Channel) (codes : Nat → Word) :
    let filtered := (s.take.completedRead c codes).complete.average c
    let acquired := s.acquiredWith a o
    filtered.acquiredWith a o =
      { (acquired.take.completedRead c codes).complete.average c with
        trace := (filtered.acquiredWith a o).trace } := by
  cases a <;> cases c <;> rfl

/-- Settles O60: each command finds the answers it takes listed as before the other, and so both
orders take the same answers. -/
theorem acquisitionsAndFiltersCommute : Obligations.AcquisitionsAndFiltersCommute := by
  intro a c s hlinks hconvs hidx hanswered
  have hacq := exec_acq_acquiredWith a s
  have hflt := exec_flt_of_answered hidx hanswered
  obtain ⟨-, ⟨hchan, -⟩, ⟨hcfgA, -⟩, -, -, -, hconvA, -⟩ := acquireFrame a s _ hacq
  obtain ⟨-, -, hfidxA⟩ := hchan c
  have hframe := exec_flt_onlyAnalog hflt
  obtain ⟨hcfgF, -⟩ := hframe.sameHostSide
  obtain ⟨hlinkF, -⟩ := hframe.outside
  have hsameConv (k : Nat) (hk : k < conversionsOf c) :
      (s.acquiredWith a s).convAnswer k = s.convAnswer k := by
    have hk2 : k < 2 := hk.trans_le (by cases c <;> decide)
    exact State.convAnswer_of_listed hcfgA hconvA (hk2.trans_le hconvs)
  have hansweredA : (s.acquiredWith a s).conversionsAnswered c := fun k hk => by
    rw [hsameConv k hk]
    exact hanswered k hk
  have hidxA : ((s.acquiredWith a s).chan c).fidx < (s.acquiredWith a s).cfg.filterN := by
    rwa [hfidxA, hcfgA]
  have hcodes : (s.acquiredWith a s).take.completedRead c (s.acquiredWith a s).code =
      (s.acquiredWith a s).take.completedRead c s.code :=
    State.completedRead_congr _ fun k hk => State.code_congr (hsameConv k hk)
  refine ⟨_, _, _, _, hacq, exec_flt_of_answered hidxA hansweredA, hflt,
    exec_acq_acquiredWith a _, ?_, State.average_busy _ c⟩
  rw [hcodes, State.acquiredWith_congr _ a hcfgF fun k hk =>
      State.linkAnswer_of_listed hlinkF (hk.trans_le hlinks)]
  exact s.acquire_filter_comm s a c s.code

end Sys2Proof.Machine
end

section
/-! Proofs about runs of the filter, beyond the family 43_moving_average_filter.md: what a listed
sample does to a channel (R150), the warm-up from reset (R154), the running sum (R155) and the
settling of identical samples (R156). -/

namespace Sys2Proof.Machine

/-! ### The sum of a buffer (R155) -/

/-- A write inside the summed slots replaces one term of the sum. -/
theorem Memory.sum_write {n i k : Nat} {m : Memory} {v : Word} (hm : Memory.wf n m = true)
    (hi : i < k) : (m.write i v).sum k + (m.read i).toNat = m.sum k + v.toNat := by
  induction k with
  | zero => omega
  | succ k ih =>
    simp only [Memory.sum]
    rcases Nat.lt_or_ge i k with hlt | hge
    · rw [Memory.read_write_other (by omega)]
      have hsum := ih hlt
      omega
    · obtain rfl : i = k := by omega
      rw [Memory.sum_write_above le_rfl, Memory.read_write_same hm]
      omega

/-- Settles O50: the sum over the whole buffer is the case `k = n`. -/
theorem runningSumIsTheSum : Obligations.RunningSumIsTheSum :=
  fun _ _ _ _ hm hi => Memory.sum_write hm hi

/-- The sum of equal slots. -/
theorem Memory.sum_of_const {m : Memory} {n : Nat} {v : Word} (h : ∀ j < n, m.read j = v) :
    m.sum n = v.toNat * n := by
  induction n with
  | zero => rfl
  | succ n ih =>
    rw [Memory.sum, ih fun j hj => h j (by omega), h n n.lt_succ_self, Nat.mul_succ]

/-! ### One filter call on a listed sample -/

/-- What a filter call does to its channel when its read brings the raw result `v` (R150). -/
def AnalogChannel.feed (n : Nat) (g : AnalogChannel) (v : Word) : AnalogChannel :=
  AnalogChannel.average { g with raw := v } n

/-- A read of listed samples is answered, brings their raw result and takes them (R132, R134). -/
theorem State.completedRead_of_listed {s : State} {c : Channel} {x : Word × Word}
    {more : List ConvAnswer} (h : s.convAnswers = readAnswers c x ++ more) :
    s.conversionsAnswered c ∧ ((s.completedRead c s.code).chan c).raw = readResult s.cfg c x ∧
      (s.completedRead c s.code).convAnswers = more := by
  cases c with
  | v =>
    have h0 : s.convAnswer 0 = some (truncCode s.cfg x.1) := by
      simp [State.convAnswer, h, readAnswers, sampleOf]
    refine ⟨by simp [State.conversionsAnswered_v, h0], ?_, ?_⟩
    · simp only [State.completedRead, State.chan, State.code_eq_of_convAnswer h0, readResult]
    · simp [State.completedRead, State.voltageWait, h, readAnswers]
  | i =>
    have h0 : s.convAnswer 0 = some (truncCode s.cfg x.1) := by
      simp [State.convAnswer, h, readAnswers, sampleOf]
    have h1 : s.convAnswer 1 = some (truncCode s.cfg x.2) := by
      simp [State.convAnswer, h, readAnswers, sampleOf]
    refine ⟨by simp [State.conversionsAnswered_i, h0, h1], ?_, ?_⟩
    · simp only [State.completedRead, State.chan, State.code_eq_of_convAnswer h0,
        State.code_eq_of_convAnswer h1, readResult, removeOffset]
    · simp [State.completedRead, State.currentWait, h, readAnswers]

/-- A filter call on listed samples completes, and feeds its channel with their raw result. -/
theorem exec_flt_of_listed {s : State} {c : Channel} {x : Word × Word} {more : List ConvAnswer}
    (hidx : (s.chan c).fidx < s.cfg.filterN) (h : s.convAnswers = readAnswers c x ++ more) :
    ∃ t, exec (fltInstr c) s = .next t ∧ t.busy = false ∧ t.convAnswers = more ∧
      t.chan c = (s.chan c).feed s.cfg.filterN (readResult s.cfg c x) := by
  obtain ⟨hanswered, hraw, hmore⟩ := State.completedRead_of_listed (s := s.take) h
  refine ⟨_, exec_flt_of_answered hidx hanswered, State.average_busy _ c, ?_, ?_⟩
  · cases c <;> exact hmore
  · rw [State.average_chan, State.complete_chan, State.completedRead_chan, State.take_chan,
      AnalogChannel.feed, ← State.take_cfg s, ← hraw]
    cases c <;> rfl

/-- The first filter call after reset with `CFG-EX`, on the listed samples `x`. -/
theorem exec_flt_after_reset (c : Channel) (x : Word × Word) (n : Nat) :
    ∃ t, exec (fltInstr c) { State.resetOf cfgEx n with convAnswers := readAnswers c x } = .next t ∧
      t.chan c = AnalogChannel.reset.feed cfgEx.filterN (readResult cfgEx c x) := by
  obtain ⟨t, hexec, -, -, hchan⟩ := exec_flt_of_listed (c := c) (x := x) (more := [])
    (s := { State.resetOf cfgEx n with convAnswers := readAnswers c x })
    (by cases c <;> exact (by decide : 0 < 4)) (List.append_nil _).symm
  exact ⟨t, hexec, by cases c <;> exact hchan⟩

/-- Settles O47: each call feeds a channel at reset, by evaluation. -/
theorem filterWorkedExamples : Obligations.FilterWorkedExamples := by
  refine ⟨decode_encode .fltV, decode_encode .fltI, fun n => ⟨?_, ?_⟩⟩
  · have hfeed : AnalogChannel.reset.feed cfgEx.filterN (readResult cfgEx .v (2048, 0)) =
        ⟨500, 125, 1, [(0, 500)]⟩ := by decide
    obtain ⟨t, hexec, hfed⟩ := exec_flt_after_reset .v (2048, 0) n
    have hchan : t.chanV = ⟨500, 125, 1, [(0, 500)]⟩ := hfed.trans hfeed
    refine ⟨t, hexec, ?_⟩
    simp only [State.slot, State.chan, hchan]
    decide
  · have hfeed : AnalogChannel.reset.feed cfgEx.filterN (readResult cfgEx .i (2000, 3000)) =
        ⟨116, 29, 1, [(0, 116)]⟩ := by decide
    obtain ⟨t, hexec, hfed⟩ := exec_flt_after_reset .i (2000, 3000) n
    have hchan : t.chanI = ⟨116, 29, 1, [(0, 116)]⟩ := hfed.trans hfeed
    refine ⟨t, hexec, ?_⟩
    simp only [State.slot, State.chan, hchan]
    decide

/-! ### Runs of filter calls on listed samples -/

/-- A step of an idle core whose host presents `FLT c` and whose converter lists the samples `x`
feeds the channel with their raw result and is idle again. -/
theorem step_flt_of_listed {s : State} {c : Channel} {x : Word × Word} {rest : List HostAction}
    {more : List ConvAnswer} (hcfg : s.cfg.wellFormed = true) (hidle : s.busy = false)
    (hidx : (s.chan c).fidx < s.cfg.filterN)
    (hqueue : s.hostQueue = .command (encode (fltInstr c)) :: rest)
    (hconv : s.convAnswers = readAnswers c x ++ more) :
    ∃ t, step s = .next t ∧ t.cfg = s.cfg ∧ t.busy = false ∧ t.hostQueue = rest ∧
      t.convAnswers = more ∧
      t.chan c = (s.chan c).feed s.cfg.filterN (readResult s.cfg c x) := by
  obtain ⟨t, hexec, hbusy, hmore, hchan⟩ :=
    exec_flt_of_listed (s := { s with hostQueue := rest }) (c := c) (x := x)
      (by cases c <;> exact hidx) hconv
  obtain ⟨hcfg', -, hrest⟩ := exec_sameHostSide hexec
  refine ⟨t, ?_, hcfg', hbusy, hrest, hmore, by cases c <;> exact hchan⟩
  rw [step_of_action hcfg hidle hqueue, hostAct_command (decode_encode _), hexec]

/-- A run of filter calls on one channel feeds it with the raw results of the listed samples, in
order. -/
theorem run_flt_of_listed {c : Channel} {xs : List (Word × Word)} {s : State}
    (hcfg : s.cfg.wellFormed = true) (hidle : s.busy = false)
    (hidx : (s.chan c).fidx < s.cfg.filterN)
    (hqueue : s.hostQueue = List.replicate xs.length (.command (encode (fltInstr c))))
    (hconv : s.convAnswers = (xs.map (readAnswers c)).flatten) :
    ∃ t, Sys2Proof.core.run xs.length s = .next t ∧ t.busy = false ∧
      t.chan c =
        (xs.map (readResult s.cfg c)).foldl (AnalogChannel.feed s.cfg.filterN) (s.chan c) := by
  induction xs generalizing s with
  | nil => exact ⟨s, rfl, hidle, rfl⟩
  | cons x xs ih =>
    obtain ⟨u, hstep, hcfgU, hidleU, hqueueU, hconvU, hchanU⟩ :=
      step_flt_of_listed hcfg hidle hidx hqueue hconv
    have hidxU : (u.chan c).fidx < u.cfg.filterN := by
      rw [hchanU, hcfgU]
      exact Nat.mod_lt _ (Nat.zero_lt_of_lt hidx)
    obtain ⟨t, hrun, hidleT, hchanT⟩ := ih (hcfgU ▸ hcfg) hidleU hidxU hqueueU hconvU
    rw [hcfgU, hchanU] at hchanT
    exact ⟨t, (run_succ_of_next _ hstep).trans hrun, hidleT, hchanT⟩

/-! ### Warm-up from reset (R154) -/

/-- The channel has been fed with `vs`, at most `n` values, since it was reset: they stand in the
first slots in order, the other slots hold 0, and the smoothed value is the mean over all. -/
structure AnalogChannel.WarmedUp (n : Nat) (vs : List Word) (g : AnalogChannel) : Prop where
  fidx : g.fidx = vs.length % n
  buffer : Memory.wf n g.fbuf = true
  slots : ∀ j, g.fbuf.read j = (vs[j]?).getD 0
  sum : g.fbuf.sum n = (vs.map BitVec.toNat).sum
  mean : g.smooth.toNat = g.fbuf.sum n / n

theorem AnalogChannel.warmedUp_reset (n : Nat) : AnalogChannel.reset.WarmedUp n [] where
  fidx := (Nat.zero_mod n).symm
  buffer := Memory.wf_nil n
  slots := Memory.read_nil
  sum := Memory.sum_nil n
  mean := by
    rw [show AnalogChannel.reset.fbuf = [] from rfl, Memory.sum_nil, Nat.zero_div]
    rfl

/-- One value more goes into the first slot that holds none yet. -/
theorem AnalogChannel.WarmedUp.feed {n : Nat} {vs : List Word} {g : AnalogChannel}
    (h : g.WarmedUp n vs) (hlt : vs.length < n) (v : Word) :
    (g.feed n v).WarmedUp n (vs ++ [v]) := by
  have hidx : g.fidx = vs.length := h.fidx.trans (Nat.mod_eq_of_lt hlt)
  obtain ⟨-, hslots, hnext, hmean, hbuffer, -⟩ :=
    AnalogChannel.average_spec (g := { g with raw := v }) h.buffer (hidx.trans_lt hlt)
  refine ⟨?_, hbuffer, fun j => ?_, ?_, hmean⟩
  · rw [List.length_append, AnalogChannel.feed, hnext, hidx]
    rfl
  · rw [AnalogChannel.feed, hslots j, hidx, h.slots j]
    rcases lt_trichotomy j vs.length with hj | rfl | hj
    · rw [if_neg hj.ne, List.getElem?_append_left hj]
    · simp
    · rw [if_neg hj.ne', List.getElem?_eq_none hj.le, List.getElem?_eq_none (by simpa using hj)]
  · have hempty : g.fbuf.read g.fidx = 0 := by simp [h.slots, hidx]
    have hsum := Memory.sum_write (v := v) h.buffer (hidx.trans_lt hlt)
    rw [hempty, h.sum] at hsum
    simpa [AnalogChannel.feed, AnalogChannel.average] using hsum

theorem AnalogChannel.WarmedUp.foldl_feed {n : Nat} {vs ws : List Word} {g : AnalogChannel}
    (h : g.WarmedUp n vs) (hle : vs.length + ws.length ≤ n) :
    (ws.foldl (AnalogChannel.feed n) g).WarmedUp n (vs ++ ws) := by
  induction ws generalizing vs g with
  | nil => simpa using h
  | cons w ws ih =>
    rw [List.length_cons] at hle
    have hfed := ih (h.feed (by omega) w) (by rw [List.length_append, List.length_singleton]; omega)
    rwa [List.append_assoc, List.singleton_append] at hfed

/-- Settles O51: the run feeds a channel at reset. -/
theorem warmUpAveragesOverAllSlots : Obligations.WarmUpAveragesOverAllSlots := by
  intro c cfg n xs hcfg hlen
  obtain ⟨-, hfilter, -⟩ := cfg.wellFormed_iff.1 hcfg
  obtain ⟨t, hrun, -, hchan⟩ := run_flt_of_listed (c := c) (xs := xs)
    (s := { State.resetOf cfg n with
      hostQueue := List.replicate xs.length (.command (encode (fltInstr c)))
      convAnswers := (xs.map (readAnswers c)).flatten })
    hcfg rfl (by cases c <;> exact hfilter) rfl rfl
  have hwarm : (t.chan c).WarmedUp cfg.filterN (xs.map (readResult cfg c)) := by
    have hfed := (AnalogChannel.warmedUp_reset cfg.filterN).foldl_feed
      (ws := xs.map (readResult cfg c)) (by simpa using hlen)
    rw [hchan]
    cases c <;> exact hfed
  refine ⟨t, hrun, hwarm.slots, ?_⟩
  rw [hwarm.mean, hwarm.sum, List.map_map]
  rfl

/-! ### Settling of identical samples (R156) -/

/-- The channel, whose index was `f`, has been fed `k` times with `v`: the slots at the indices it
went through hold `v`. -/
structure AnalogChannel.Settling (n f : Nat) (v : Word) (k : Nat) (g : AnalogChannel) : Prop where
  fidx : g.fidx = (f + k) % n
  buffer : Memory.wf n g.fbuf = true
  mean : g.smooth.toNat = g.fbuf.sum n / n
  recent : ∀ j < k, g.fbuf.read ((f + j) % n) = v

theorem AnalogChannel.Settling.feed {n f k : Nat} {v : Word} {g : AnalogChannel} (hn : 0 < n)
    (h : g.Settling n f v k) : (g.feed n v).Settling n f v (k + 1) := by
  obtain ⟨-, hslots, hnext, hmean, hbuffer, -⟩ :=
    AnalogChannel.average_spec (g := { g with raw := v }) h.buffer
      (h.fidx.trans_lt (Nat.mod_lt _ hn))
  refine ⟨?_, hbuffer, hmean, fun j hj => ?_⟩
  · rw [AnalogChannel.feed, hnext, h.fidx, Nat.mod_add_mod, Nat.add_assoc]
  · rw [AnalogChannel.feed, hslots, h.fidx]
    rcases Nat.lt_succ_iff_lt_or_eq.1 hj with hlt | rfl
    · rw [h.recent j hlt, ite_self]
    · rw [if_pos rfl]

theorem AnalogChannel.Boundary.settling_replicate {n : Nat} {g : AnalogChannel}
    (h : g.Boundary n) (v : Word) (k : Nat) :
    ((List.replicate k v).foldl (AnalogChannel.feed n) g).Settling n g.fidx v k := by
  induction k with
  | zero => exact ⟨(Nat.mod_eq_of_lt h.fidx).symm, h.buffer, h.mean, nofun⟩
  | succ k ih =>
    rw [List.replicate_succ', List.foldl_append]
    exact ih.feed (Nat.zero_lt_of_lt h.fidx)

/-- From any index the index goes through every slot in `n` calls. -/
theorem exists_add_mod_eq {n f i : Nat} (hf : f < n) (hi : i < n) : ∃ j < n, (f + j) % n = i := by
  rcases Nat.lt_or_ge i f with hlt | hge
  · refine ⟨i + n - f, by omega, ?_⟩
    rw [show f + (i + n - f) = i + n by omega, Nat.add_mod_right, Nat.mod_eq_of_lt hi]
  · refine ⟨i - f, by omega, ?_⟩
    rw [show f + (i - f) = i by omega, Nat.mod_eq_of_lt hi]

/-- After `n` equal values every slot holds the value, and so does the mean. -/
theorem AnalogChannel.Settling.smooth_eq {n f : Nat} {v : Word} {g : AnalogChannel} (hf : f < n)
    (h : g.Settling n f v n) : g.smooth = v := by
  have hall (i : Nat) (hi : i < n) : g.fbuf.read i = v := by
    obtain ⟨j, hj, rfl⟩ := exists_add_mod_eq hf hi
    exact h.recent j hj
  apply BitVec.eq_of_toNat_eq
  rw [h.mean, Memory.sum_of_const hall, Nat.mul_div_cancel _ (Nat.zero_lt_of_lt hf)]

/-- Settles O52: the run feeds the channel with `FILTER_N` equal raw results. -/
theorem identicalSamplesSettle : Obligations.IdenticalSamplesSettle := by
  intro c s x hinv hidle hqueue hconv
  obtain ⟨t, hrun, hidleT, hchan⟩ := run_flt_of_listed (c := c)
    (xs := List.replicate s.cfg.filterN x) hinv.cfgOk hidle (hinv.fidxOk c)
    (by rw [List.length_replicate, hqueue]) (by rw [List.map_replicate, hconv])
  rw [List.length_replicate] at hrun
  rw [List.map_replicate] at hchan
  refine ⟨t, hrun, ?_, hidleT⟩
  rw [hchan]
  exact ((hinv.boundary c).settling_replicate _ _).smooth_eq (hinv.fidxOk c)

end Sys2Proof.Machine
end
